-- ==== Sys2Proof/Word.lean ====
section
/-! DEFINITION. The widths of the spec: the byte, the 32-bit coefficient word, a section of five words (R7, R8, R20),
and the number a device or preview arithmetic computes in. -/

namespace Sys2Proof

/-- R7: "A byte is 8 bits". -/
abbrev Byte := BitVec 8

/-- R7, R8: a 32-bit word, the bit pattern of a binary32 number. -/
abbrev Word := BitVec 32

/-- A number of the device's arithmetic (R6's `DEV_ARITH`) as plain data. In exact real arithmetic it is
`rat + free[0]·ρ 0 + free[1]·ρ 1 + …`, the `ρ i` any real numbers whatever (`Number.real` of Machine/Reference.lean): a
run's inputs are any reals, and its sums of products with rational coefficients stay of this form. In any other
arithmetic, whose numbers are countable, it is the code of one of them, zero's being `Number.zero`
(PRESUMED, log entry 16; safe: equal data are equal numbers, whatever the reals and the code). -/
structure Number where
  rat  : ℚ
  free : List ℚ
  deriving DecidableEq, Repr, Inhabited

/-- A rational number. -/
def Number.ofRat (q : ℚ) : Number := ⟨q, []⟩

/-- The number zero. -/
def Number.zero : Number := .ofRat 0

/-- The `i`-th unknown real, `ρ i`. -/
def Number.unknown (i : Nat) : Number := ⟨0, List.replicate i 0 ++ [1]⟩

/-- One biquad section, five words in the order of R20 (`b0, b1, b2, a1, a2`; there is no `a0` word). The same shape
holds a section in device convention (R130). -/
structure Biquad where
  b0 : Word
  b1 : Word
  b2 : Word
  a1 : Word
  a2 : Word
  deriving DecidableEq, Repr, Inhabited

/-- R20: the five words of a section in their order. -/
def Biquad.words (s : Biquad) : List Word := [s.b0, s.b1, s.b2, s.a1, s.a2]

/-- R24: the identity section `(1, 0, 0, 0, 0)`, its zeros positive. -/
def Biquad.identity : Biquad := ⟨0x3F800000, 0, 0, 0, 0⟩

end Sys2Proof
end

