-- ==== Sys2Proof/Config.lean ====
section
/-! DEFINITION. The constants and parameters of R6, the free values (opaque, with no body), and the plain data that the
parameters and the environment are made of. -/

namespace Sys2Proof

/-- An opaque serial device identifier (R28, R81), here a byte string (log entry 3). -/
abbrev Port := List Byte

namespace Config

/-- R6: the transport's maximum payload in bytes. -/
abbrev maxPayload : Nat := 64

/-- R86: the largest `p` with `3 + 4*p < 64`. -/
abbrev maxPc : Nat := 15

/-- R28: the link's constant bit rate (informational, R292). -/
abbrev baud : Nat := 9600

/-- R6, R145: the published grid points. -/
abbrev displayPoints : Nat := 400

/-- R262: the preview timer's period (informational, R292). -/
abbrev respPeriodMs : Nat := 250

/-- R262: the polling timer's period (informational, R292). -/
abbrev pollPeriodMs : Nat := 100

end Config

/-- The real coefficients of a section, `val` of its five words (R140). -/
structure RealBiquad where
  b0 : ℚ
  b1 : ℚ
  b2 : ℚ
  a1 : ℚ
  a2 : ℚ
  deriving DecidableEq, Repr, Inhabited

/-- A published magnitude as plain data (R27): a rational, `20·log10 |H|` for `H` the product of the transfer functions
of `ss` at `ω = π·k/m` (R142, R144, R147), or the free real number `Config.freeReal i`; `magOf` of Machine/Reference.lean
is the number named (DESIGN CHOICE, log entry 20; safe: equal names are equal numbers). -/
inductive RespMag where
  | rat (q : ℚ)
  | magDb (ss : List RealBiquad) (k m : Nat)
  | free (i : Nat)
  deriving DecidableEq, Repr, Inhabited

/-- A published phase as plain data (R27): a rational, `arg(H)·180/π` for such an `H` (R148), or that of the free complex
number `Config.freeComplex i`; `phaseOf` of Machine/Reference.lean is the number named (log entry 20). -/
inductive RespPhase where
  | rat (q : ℚ)
  | phaseDeg (ss : List RealBiquad) (k m : Nat)
  | free (i : Nat)
  deriving DecidableEq, Repr, Inhabited

/-- R27: `ph_k` "is a real number in `(−180, 180]`". The other names denote principal values. -/
def RespPhase.legal : RespPhase → Bool
  | .rat q => decide (-180 < q) && decide (q ≤ 180)
  | .phaseDeg _ _ _ => true
  | .free _ => true

/-- One published point (R27): `mag = none` is the distinguished value `NEG_INF`. -/
structure RespPoint where
  mag : Option RespMag
  ph  : RespPhase
  deriving DecidableEq, Repr, Inhabited

/-- R154: the preview's arithmetic, the exact reference or an implementation's own, the `k`-th of the free family
`Config.respFails`, `Config.respPoint`. -/
inductive RespSel where
  | exact
  | impl (k : Nat)
  deriving DecidableEq, Repr, Inhabited

/-- R6, R214: the device's arithmetic, the exact reference or an implementation's own, the `k`-th of the free family
`Config.devMac`. -/
inductive DevSel where
  | exact
  | impl (k : Nat)
  deriving DecidableEq, Repr, Inhabited

/-- The signal values of one section of the device's recurrence (R214): its input and its four delayed values. -/
structure Taps where
  u  : Number
  x1 : Number
  x2 : Number
  y1 : Number
  y2 : Number
  deriving DecidableEq, Repr, Inhabited

/-- What an arithmetic of the device must give (R214, D16): `b0·u + b1·x1 + b2·x2 + d1·y1 + d2·y2` for a section of
received words, with their conversion and its rounding and overflow. -/
structure DevArith where
  mac : Biquad → Taps → Number
  deriving Inhabited

/-- R6, R230, D28: `PORT_VALID`, an environment's predicate that a model quantifies over: the ports listed, all but those
listed, or the `k`-th of the free family `Config.portValid` (log entry 4). -/
inductive PortSel where
  | only (l : List Port)
  | allBut (l : List Port)
  | impl (k : Nat)
  deriving DecidableEq, Repr, Inhabited

/-- The parameters of R6 that are not constants. They are plain data, held in `State.par` and written by no step
(R25, R284), so that a statement about every state speaks of every instance (log entry 1). -/
structure Params where
  /-- `N`, the number of sections of block and device (R25, R180). -/
  N : Nat
  /-- `CHUNK`, floats per full fragment. -/
  chunk : Nat
  /-- `TERM_MORE`. -/
  termMore : Byte
  /-- `TERM_FINAL`. -/
  termFinal : Byte
  /-- `AUTOEQ_SEQ`; `none` is unset. -/
  autoeqSeq : Option (List Byte)
  /-- `FS_PREVIEW`. -/
  fsPreview : Nat
  /-- `RESP_ARITH`. -/
  respArith : RespSel
  /-- `DEV_ARITH`. -/
  devArith : DevSel
  /-- `DEV_RESET_BANK`; `none` is not given. -/
  devResetBank : Option (List Word)
  /-- `COMMIT_CLEARS_STATE`. -/
  commitClearsState : Bool
  /-- `COMMIT_EXITS_AUTOEQ`. -/
  commitExitsAutoeq : Bool
  /-- `PORT_VALID`. -/
  ports : PortSel
  deriving DecidableEq, Repr, Inhabited

/-- R6: `NF = 5*N`. -/
def Params.NF (p : Params) : Nat := 5 * p.N

/-- R6, R144: `M = FS_PREVIEW div 2`. -/
def Params.M (p : Params) : Nat := p.fsPreview / 2

/-- R6, R145: `P = min(DISPLAY_POINTS, M)`. -/
def Params.P (p : Params) : Nat := min Config.displayPoints p.M

/-- R6: `AUTOEQ_SEQ` is unset, or non-empty with a first byte outside `1..MAX_PC`. -/
def autoeqLegal : Option (List Byte) → Bool
  | none => true
  | some [] => false
  | some (b :: _) => !(decide (1 ≤ b.toNat) && decide (b.toNat ≤ Config.maxPc))

/-- The constraints of R6's table: "every constraint in the table holds". -/
abbrev Params.Valid (p : Params) : Prop :=
  1 ≤ p.N ∧ 5 * p.N ≤ 256 ∧ 1 ≤ p.chunk ∧ p.chunk ≤ Config.maxPc ∧ p.termFinal ≠ p.termMore ∧
    autoeqLegal p.autoeqSeq = true ∧ 2 ≤ p.fsPreview ∧ (p.devResetBank.all fun l => l.length == p.NF) = true

/-- An instance as R6 fixes it: the constraints, the source's two sizes of bank, and D9's `CHUNK = 10`. -/
abbrev Params.Standard (p : Params) : Prop :=
  p.Valid ∧ (p.N = 4 ∨ p.N = 8) ∧ p.chunk = 10

/-- The test profile TP of D41, "not normative": the model's tests use it. -/
def Params.testProfile : Params where
  N := 4
  chunk := 10
  termMore := 0x00
  termFinal := 0x01
  autoeqSeq := none
  fsPreview := 48000
  respArith := .exact
  devArith := .exact
  devResetBank := none
  commitClearsState := false
  commitExitsAutoeq := false
  ports := .only [[0x43, 0x4F, 0x4D, 0x33]]

/-- What the environment brings about next: a HOST operation issued on the command port with the draw its `LinkWrite`
takes (R93's `@FAIL_AFTER n`), a tick of a timer (R260), one step of a device agent (R3) with its draw, or one of the
two independent resets (R281). -/
inductive Event where
  | command (bytes : List Byte) (writeDraw : Option Nat)
  | timerResponse
  | timerPoll
  | devRx
  | devTx (b : Byte)
  | sample (x : Number)
  | blockReset
  | deviceReset
  deriving DecidableEq, Repr, Inhabited

namespace Config

/-- The instance's parameters, free: nothing but the constraints is known of them (`Config.params`). -/
opaque instanceParams : Params

/-- The parameters at reset: any standard instance (R6: "A parameter marked OPEN has no value in the source and none is
decided; a model quantifies over it"). The test profile stands in the branch that only keeps the constraints true
(DESIGN CHOICE, log entry 1; safe). -/
def params : Params := if instanceParams.Standard then instanceParams else Params.testProfile

/-- The `n`-th draw of a word (R9, R35, R36, R210): a free value. -/
opaque freeWord : Nat → Word

/-- `val` of a word that is no finite number: the spec states no value (R8, R214): a free value (log entry 17). -/
opaque nonFiniteVal : Word → ℚ

/-- How the `k`-th device arithmetic forms a section's sum of products from the received words (R214, R6: OPEN): free
(log entry 18). -/
opaque devMac : Nat → Biquad → Taps → Number

/-- The `k`-th predicate of an environment on ports (R6, D28): free (log entry 4). -/
opaque portValid : Nat → Port → Bool

/-- Whether the `k`-th preview arithmetic reports failure on a bank's words (R154): free (log entry 19). -/
opaque respFails : Nat → List Word → Bool

/-- The point the `k`-th preview arithmetic gives for a bank's words at a grid index (R154): free (log entry 19). -/
opaque respPoint : Nat → List Word → Nat → RespPoint

/-- The real numbers and the complex numbers that a published magnitude or phase of no other name has: free
(log entry 20). -/
noncomputable opaque freeReal : Nat → ℝ
noncomputable opaque freeComplex : Nat → ℂ

/-- What the environment brings about at position `n` of a run when nothing has been placed in `inbox` (R261: the order
is left open): a free value (log entry 5). -/
opaque envEvent : Nat → Event

end Config

/-- `PORT_VALID(port)` (R230). -/
def Params.portValid (p : Params) (port : Port) : Bool :=
  match p.ports with
  | .only l => l.contains port
  | .allBut l => !l.contains port
  | .impl k => Config.portValid k port

end Sys2Proof
end

