-- ==== Sys2Proof/Syntax.lean ====
section
/-! DEFINITION. The operations of spec/opcode_table.json: twelve commands (R82), the two frames and the control command
of the link (R88, R90), and the device's sample step (R92). -/

namespace Sys2Proof

/-- One constructor per row of the opcode table, operands as R81, R82, R87 and R214 give them. `cnt` and `param_count`
are the lengths of the word lists (R93: "its `cnt` is implied by the list length"). -/
inductive Instr where
  | sectionCount
  | getSection (idx : Byte)
  | setSection (idx : Byte) (ws : List Word)
  | toDevice (sec : Biquad)
  | toPreview (sec : Biquad)
  | upload
  | sendAutoeq
  | linkOpen (port : Port)
  | linkClose
  | readAvailable
  | tickResponse
  | tickPoll
  | fragMore (si : Byte) (data : List Word)
  | fragFinal (si : Byte) (data : List Word)
  | autoeqCmd
  | sample (x : Number)
  deriving DecidableEq, Repr, Inhabited

/-- The interface an operation travels on (R1, R60): the command port, the host-to-device link, or the device's sample
input, which has no encoding (R92). -/
inductive Channel where
  | command
  | link
  | datapath
  deriving DecidableEq, Repr, Inhabited

/-- Which interface carries an operation (R82, R85, R90, R92). -/
def Instr.channel : Instr → Channel
  | .sectionCount | .getSection _ | .setSection _ _ | .toDevice _ | .toPreview _ | .upload | .sendAutoeq
  | .linkOpen _ | .linkClose | .readAvailable | .tickResponse | .tickPoll => .command
  | .fragMore _ _ | .fragFinal _ _ | .autoeqCmd => .link
  | .sample _ => .datapath

end Sys2Proof
end

