-- ==== Sys2Proof/WellFormed.lean ====
section
/-! DEFINITION. Which terms of `Instr` are operations of an instance: operand counts that fit their one-byte fields and
frames legal at the device (R81, R87, R90). -/

namespace Sys2Proof

/-- R87: "A legal frame has `1 <= pc <= MAX_PC` and `start_index + pc <= NF`." -/
def frameLegal (p : Params) (si : Byte) (data : List Word) : Bool :=
  decide (1 ≤ data.length) && decide (data.length ≤ Config.maxPc) && decide (si.toNat + data.length ≤ p.NF)

/-- An operation that the instance `p` can be given: R81's counts are `u8`, R87's frames are legal, R90's command exists
only when `AUTOEQ_SEQ` is set. -/
def Instr.wellFormed (p : Params) : Instr → Bool
  | .setSection _ ws => decide (ws.length < 256)
  | .linkOpen port => decide (port.length < 256)
  | .fragMore si data => frameLegal p si data
  | .fragFinal si data => frameLegal p si data
  | .autoeqCmd => p.autoeqSeq.isSome
  | .sectionCount => true
  | .getSection _ => true
  | .toDevice _ => true
  | .toPreview _ => true
  | .upload => true
  | .sendAutoeq => true
  | .linkClose => true
  | .readAvailable => true
  | .tickResponse => true
  | .tickPoll => true
  | .sample _ => true

end Sys2Proof
end

