-- ==== Sys2Proof/Decode.lean ====
section
/-! DEFINITION. From bytes to operations and back: the command port (R80 to R84), the link's messages (R85 to R91), and the
byte orders they use. Decoding is total and rejects by name; the encoder follows. -/

namespace Sys2Proof

/-! ## Byte orders -/

/-- R9, R63: `le32(w) = [w[7:0], w[15:8], w[23:16], w[31:24]]`, the order of a float in a frame. -/
def le32 (w : Word) : List Byte :=
  [w.extractLsb' 0 8, w.extractLsb' 8 8, w.extractLsb' 16 8, w.extractLsb' 24 8]

/-- R9: `unle32(b0, b1, b2, b3)` is the bit concatenation of `b3, b2, b1, b0`, `b3` in the upper bits. -/
def unle32 (b0 b1 b2 b3 : Byte) : Word := b3 ++ b2 ++ b1 ++ b0

/-- A word on the command port, most significant byte first, as the programs of 95_test_vectors.md write it (R63: the
port "has no byte order"; DESIGN CHOICE, log entry 2; safe: no behaviour depends on it). -/
def be32 (w : Word) : List Byte :=
  [w.extractLsb' 24 8, w.extractLsb' 16 8, w.extractLsb' 8 8, w.extractLsb' 0 8]

/-- The words of a frame's data field, four bytes each (R85: `unle32(byte[2+4m], …, byte[5+4m])`). -/
def wordsOf : List Byte → List Word
  | b0 :: b1 :: b2 :: b3 :: rest => unle32 b0 b1 b2 b3 :: wordsOf rest
  | _ => []

/-- The bytes of a frame's data field. -/
def bytesOf (ws : List Word) : List Byte := ws.flatMap le32

/-- R81's length prefix of a byte string: the length in runs of 255, each the byte `FF`, then what is left in one byte
below `FF` (R81 gives the prefix no layout, and a queue no greatest length; DESIGN CHOICE, log entry 34; safe: no
behaviour depends on it). -/
def lengthPrefix (n : Nat) : List Byte := List.replicate (n / 255) 0xFF ++ [BitVec.ofNat 8 (n % 255)]

/-- A length prefix read back, and the bytes after it. -/
def takeLength : List Byte → Option (Nat × List Byte)
  | [] => none
  | b :: bs => if b = 0xFF then (takeLength bs).map fun r => (r.1 + 255, r.2) else some (b.toNat, bs)

/-! ## Reading operands -/

/-- Why bytes are no operation. -/
inductive Reject where
  /-- No byte at all. -/
  | empty
  /-- R84: an opcode outside R82's table. -/
  | reservedOpcode (op : Byte)
  /-- The bytes end inside the operation. -/
  | truncated
  /-- R91: a first byte that starts no link message. -/
  | badFirstByte (b : Byte)
  /-- R91: `start_index + pc > NF`. -/
  | badStartIndex (si : Byte)
  /-- R91: a terminator that is neither `TERM_MORE` nor `TERM_FINAL`. -/
  | badTerminator (t : Byte)
  /-- R91: a byte that breaks off `AUTOEQ_SEQ`. -/
  | brokenAutoeq
  /-- R92: the sample input has no encoding. -/
  | noEncoding
  deriving DecidableEq, Repr

/-- What decoding answers: an operation and the bytes after it, or the reason there is none. -/
inductive Decoded where
  | ok (i : Instr) (rest : List Byte)
  | reject (r : Reject)
  deriving DecidableEq, Repr

/-- `n` words of four bytes each from the command port, and the bytes after them. -/
def takeWords : Nat → List Byte → Option (List Word × List Byte)
  | 0, bs => some ([], bs)
  | n + 1, b3 :: b2 :: b1 :: b0 :: bs =>
    match takeWords n bs with
    | some (ws, rest) => some (unle32 b0 b1 b2 b3 :: ws, rest)
    | none => none
  | _ + 1, _ => none

/-- An opcode followed by five words (R82's TO_DEVICE and TO_PREVIEW). -/
def decodeBiquad (mk : Biquad → Instr) (bs : List Byte) : Decoded :=
  match takeWords 5 bs with
  | some ([b0, b1, b2, a1, a2], rest) => .ok (mk ⟨b0, b1, b2, a1, a2⟩) rest
  | _ => .reject .truncated

/-- SET_SECTION's operands: `idx`, `cnt`, `cnt` words (R82, R83). -/
def decodeSetSection : List Byte → Decoded
  | idx :: cnt :: bs =>
    match takeWords cnt.toNat bs with
    | some (ws, rest) => .ok (.setSection idx ws) rest
    | none => .reject .truncated
  | _ => .reject .truncated

/-- LINK_OPEN's operand: the identifier's length in one byte, then its bytes (R81: "an opaque serial device identifier";
DESIGN CHOICE, log entry 3; safe: no behaviour depends on it). -/
def decodeLinkOpen : List Byte → Decoded
  | len :: bs => if len.toNat ≤ bs.length then .ok (.linkOpen (bs.take len.toNat)) (bs.drop len.toNat) else .reject .truncated
  | [] => .reject .truncated

/-- GET_SECTION's operand. -/
def decodeGetSection : List Byte → Decoded
  | idx :: bs => .ok (.getSection idx) bs
  | [] => .reject .truncated

/-- The command port's decoder (R80, R82 to R84): the opcode byte alone fixes the shape. -/
def decodeCommand : List Byte → Decoded
  | [] => .reject .empty
  | op :: bs =>
    match op.toNat with
    | 0x01 => .ok .sectionCount bs
    | 0x02 => decodeGetSection bs
    | 0x03 => decodeSetSection bs
    | 0x04 => decodeBiquad .toDevice bs
    | 0x05 => decodeBiquad .toPreview bs
    | 0x10 => .ok .upload bs
    | 0x11 => .ok .sendAutoeq bs
    | 0x20 => decodeLinkOpen bs
    | 0x21 => .ok .linkClose bs
    | 0x22 => .ok .readAvailable bs
    | 0x30 => .ok .tickResponse bs
    | 0x31 => .ok .tickPoll bs
    | _ => .reject (.reservedOpcode op)

/-! ## The link -/

/-- R87, R201: a first byte in `1..MAX_PC` is a frame's `param_count`. -/
def startsFrame (b : Byte) : Bool := decide (1 ≤ b.toNat) && decide (b.toNat ≤ Config.maxPc)

/-- R88: "A frame's kind is selected by its terminator byte alone". -/
def frameOf (p : Params) (si : Byte) (d : List Byte) (term : Byte) : Option Instr :=
  if term = p.termMore then some (.fragMore si (wordsOf d))
  else if term = p.termFinal then some (.fragFinal si (wordsOf d))
  else none

/-- A frame after its `param_count` (R85, R89). -/
def decodeFrame (p : Params) (pc : Nat) : List Byte → Decoded
  | [] => .reject .truncated
  | si :: bs =>
    if p.NF < si.toNat + pc then .reject (.badStartIndex si)
    else
      match bs.drop (4 * pc) with
      | [] => .reject .truncated
      | t :: rest =>
        match frameOf p si (bs.take (4 * pc)) t with
        | some i => .ok i rest
        | none => .reject (.badTerminator t)

/-- The auto-EQ command when its first byte has been seen (R90, R211). -/
def decodeAutoeq (seq bs : List Byte) : Decoded :=
  if seq.isPrefixOf bs then .ok .autoeqCmd (bs.drop seq.length)
  else if bs.isPrefixOf seq then .reject .truncated
  else .reject .brokenAutoeq

/-- The link's decoder, a whole message at a time (R85 to R91). The device itself reads a byte a step
(Machine/Receiver.lean). -/
def decodeLink (p : Params) : List Byte → Decoded
  | [] => .reject .empty
  | b :: bs =>
    if startsFrame b then decodeFrame p b.toNat bs
    else
      match p.autoeqSeq with
      | some (s :: seq) => if b = s then decodeAutoeq (s :: seq) (b :: bs) else .reject (.badFirstByte b)
      | _ => .reject (.badFirstByte b)

/-- The decoder of each interface. -/
def decode (p : Params) : Channel → List Byte → Decoded
  | .command, bs => decodeCommand bs
  | .link, bs => decodeLink p bs
  | .datapath, _ => .reject .noEncoding

/-! ## Encoding -/

/-- R82's opcode byte; the link's messages and the sample step have none. -/
def Instr.opcode : Instr → Option Byte
  | .sectionCount => some 0x01
  | .getSection _ => some 0x02
  | .setSection _ _ => some 0x03
  | .toDevice _ => some 0x04
  | .toPreview _ => some 0x05
  | .upload => some 0x10
  | .sendAutoeq => some 0x11
  | .linkOpen _ => some 0x20
  | .linkClose => some 0x21
  | .readAvailable => some 0x22
  | .tickResponse => some 0x30
  | .tickPoll => some 0x31
  | .fragMore _ _ => none
  | .fragFinal _ _ => none
  | .autoeqCmd => none
  | .sample _ => none

/-- R85, R176: `[pc, si] ++ le32(w_0) ++ … ++ [term]`. -/
def frameBytes (si : Byte) (data : List Word) (term : Byte) : List Byte :=
  [BitVec.ofNat 8 data.length, si] ++ bytesOf data ++ [term]

/-- The bytes of an operation, as R82, R85 and R90 lay them out; `none` where it has no encoding (R92; R90 while
`AUTOEQ_SEQ` is unset). -/
def encode (p : Params) : Instr → Option (List Byte)
  | .sectionCount => some [0x01]
  | .getSection idx => some [0x02, idx]
  | .setSection idx ws => some ([0x03, idx, BitVec.ofNat 8 ws.length] ++ ws.flatMap be32)
  | .toDevice sec => some ([0x04] ++ sec.words.flatMap be32)
  | .toPreview sec => some ([0x05] ++ sec.words.flatMap be32)
  | .upload => some [0x10]
  | .sendAutoeq => some [0x11]
  | .linkOpen port => some ([0x20, BitVec.ofNat 8 port.length] ++ port)
  | .linkClose => some [0x21]
  | .readAvailable => some [0x22]
  | .tickResponse => some [0x30]
  | .tickPoll => some [0x31]
  | .fragMore si data => some (frameBytes si data p.termMore)
  | .fragFinal si data => some (frameBytes si data p.termFinal)
  | .autoeqCmd => p.autoeqSeq
  | .sample _ => none

/-! ## The opcode table's numbering of bits -/

/-- The first `n` bytes of `w`, the least significant first: the table's bit 0 is bit 0 of the first byte. -/
def bytesOfNat : Nat → Nat → List Byte
  | 0, _ => []
  | n + 1, w => BitVec.ofNat 8 w :: bytesOfNat n (w / 256)

/-- A command transaction whose first `nbits` bits are `w` and whose further operand bytes are zeros; twenty zeros are
the longest fixed operand list (five words), and a zero count or length asks for no more. -/
def tableBytes (nbits w : Nat) : List Byte := bytesOfNat (nbits / 8) w ++ List.replicate 20 0

/-- The instruction the command port's decoder reads from `tableBytes`. The rows FRAG_MORE, FRAG_FINAL, AUTOEQ_CMD and
SAMPLE have no bit pattern in the table (their bytes are parameters, or none). -/
def decodeTableWord (nbits w : Nat) : Option Instr :=
  match decodeCommand (tableBytes nbits w) with
  | .ok i _ => some i
  | .reject _ => none

/-- The bytes of `tableBytes` that the instruction takes: one whole transaction (all of them where there is none). -/
def tableTransaction (nbits w : Nat) : List Byte :=
  match decodeCommand (tableBytes nbits w) with
  | .ok _ rest => (tableBytes nbits w).take ((tableBytes nbits w).length - rest.length)
  | .reject _ => tableBytes nbits w

end Sys2Proof
end

