-- ==== Sys2Proof/Machine/State.lean ====
section
/-! DEFINITION. The state of block, link and device contract as plain data (10_state.md), the reasons a step can stop, and
the state after reset (R280, R281). -/

namespace Sys2Proof.Machine

/-- R28: the link is closed, or open on one port. -/
inductive Link where
  | closed
  | opened (port : Port)
  deriving DecidableEq, Repr, Inhabited

/-- R250: the status codes' kinds. The block never answers the importer's two (R252). -/
inductive Status where
  | ok
  | validationError
  | sourceUnreadableError
  | rowMismatchError
  | linkUnavailableError
  | transmissionError
  | indexRangeError
  deriving DecidableEq, Repr, Inhabited

/-- R250's "recorded detail". -/
inductive Detail where
  | none
  | count (n : Nat)
  | word (c : Nat)
  | port (p : Port)
  | delivered (n : Nat)
  | idx (i : Byte)
  deriving DecidableEq, Repr, Inhabited

/-- R33: a diagnostic record `(opcode, error kind, detail)`. -/
structure DiagRecord where
  op     : Byte
  kind   : Status
  detail : Detail
  deriving DecidableEq, Repr, Inhabited

/-- R82's results of a command. -/
inductive Results where
  | none
  | count (n : Byte)
  | words (ws : List Word)
  | bytes (bs : List Byte)
  deriving DecidableEq, Repr, Inhabited

/-- R80: what the command port answers, a status and, with OK, the results. -/
structure Response where
  status  : Status
  results : Results
  deriving DecidableEq, Repr, Inhabited

/-- R259's names of refusals. -/
inductive RefusalName where
  | reservedOpcode
  | autoeqUnspecified
  | autoeqFilter
  deriving DecidableEq, Repr, Inhabited

/-- R257: the device's one fault. -/
inductive DeviceFault where
  | desync
  deriving DecidableEq, Repr, Inhabited

/-- R280, R260: a timer runs from reset for the whole session; its first tick is pending, or it has ticked and been
rescheduled. -/
inductive TimerPhase where
  | firstTickPending
  | rescheduled
  deriving DecidableEq, Repr, Inhabited

/-- R39. -/
inductive DevMode where
  | normal
  | autoeq
  deriving DecidableEq, Repr, Inhabited

/-- R38: the device receiver's parse state. -/
inductive RxState where
  | idle
  | gotPc (pc : Nat)
  | data (pc : Nat) (si : Byte) (d : List Byte)
  | awaitTerm (pc : Nat) (si : Byte) (d : List Byte)
  | seq (m : Nat)
  deriving DecidableEq, Repr, Inhabited

/-- R40: a section's delay state. -/
structure Delay where
  x1 : Number
  x2 : Number
  y1 : Number
  y2 : Number
  deriving DecidableEq, Repr, Inhabited

/-- The zero delay state of R40 and R209. -/
def Delay.zero : Delay := ⟨.zero, .zero, .zero, .zero⟩

/-- Everything the spec gives the machine (10_state.md), then the model's own fields (`resp` and below). -/
structure State where
  /-- The instance's parameters (R6, R25, R284); written by no step. -/
  par : Params
  /-- R20. -/
  bank : List Biquad
  /-- R26. -/
  respSnap : Option (List Word)
  /-- R27. -/
  respPub : Option (List RespPoint)
  /-- R28. -/
  link : Link
  /-- R29. -/
  h2d : List Byte
  /-- R30. -/
  d2h : List Byte
  /-- R31. -/
  telem : List Byte
  /-- R33. -/
  diag : List DiagRecord
  /-- R41, R259: the refusal mark; the empty list is "unset". -/
  refused : List RefusalName
  /-- R280: the preview timer. -/
  respTimer : TimerPhase
  /-- R280: the polling timer. -/
  pollTimer : TimerPhase
  /-- R35. -/
  devActive : List Word
  /-- R36. -/
  devShadow : List Word
  /-- R37. -/
  devWmask : List Bool
  /-- R38. -/
  devRx : RxState
  /-- R39. -/
  devMode : DevMode
  /-- R40. -/
  devDly : List Delay
  /-- R41: the device faults recorded. -/
  devFault : List DeviceFault
  /-- The model's own: what the last HOST operation answered (R80; log entry 15). -/
  resp : Option Response
  /-- The model's own: what the last SAMPLE gave (R214; log entry 15). -/
  sampleOut : Option Number
  /-- The model's own: what the environment has issued, in order (R34, R93; log entry 5). -/
  inbox : List Event
  /-- The model's own: the index of the next event (R34; log entry 5). -/
  pos : Nat
  /-- The model's own: how many free words have been taken (log entry 7). -/
  draws : Nat
  /-- The model's own: the draw the next `LinkWrite` takes (R233; log entry 8). -/
  writeDraw : Option Nat
  deriving DecidableEq, Repr, Inhabited

/-- The machine's only stop. -/
inductive Fault where
  /-- Raised by `step` for an event whose bytes end inside a command transaction (or hold none): the port waits for bytes
  that this event does not bring, and no rule says what it does then (R80; log entry 13). Safe: nothing is claimed past it. -/
  | portWaits (bytes : List Byte)
  deriving DecidableEq, Repr

/-- Why an operation has no meaning in the model. The spec's own refusals (R259) are no stop: they set `State.refused`. -/
inductive Refusal where
  /-- Raised by `exec` for an instruction that has no meaning yet; safe. -/
  | notModelled (mnemonic : String)
  deriving DecidableEq, Repr

/-- `n` draws of a word, from the `base`-th on (R9; log entry 7). -/
def freeWords (base n : Nat) : List Word := (List.range n).map fun j => Config.freeWord (base + j)

/-- R35, R281: `DEV_RESET_BANK` where it is given, else each word a draw. -/
def activeAtReset (p : Params) (base : Nat) : List Word :=
  match p.devResetBank with
  | some l => (List.range p.NF).map fun j => l.getD j (Config.freeWord (base + j))
  | none => freeWords base p.NF

/-- R24: the bank at reset. -/
def bankAtReset (p : Params) : List Biquad := List.replicate p.N Biquad.identity

/-- Block and device of the instance `p` right after both resets (R280, R281), nothing placed in `inbox`. -/
def State.resetOf (p : Params) : State where
  par := p
  bank := bankAtReset p
  respSnap := none
  respPub := none
  link := .closed
  h2d := []
  d2h := []
  telem := []
  diag := []
  refused := []
  respTimer := .firstTickPending
  pollTimer := .firstTickPending
  devActive := activeAtReset p 0
  devShadow := freeWords p.NF p.NF
  devWmask := List.replicate p.NF false
  devRx := .idle
  devMode := .normal
  devDly := List.replicate p.N Delay.zero
  devFault := []
  resp := none
  sampleOut := none
  inbox := []
  pos := 0
  draws := 2 * p.NF
  writeDraw := none

/-- The machine right after reset, of any standard instance (R280, R281; `Config.params`). -/
def State.reset : State := State.resetOf Config.params

end Sys2Proof.Machine
end

