-- ==== Sys2Proof/Machine/Operands.lean ====
section
/-! DEFINITION. The operand forms: a coefficient word as a binary32 number (R8), the sign flip (R8, R131), a section's sign
conventions (R130), the flat order of a bank (R61), and the device's arithmetics (R6, R214). -/

namespace Sys2Proof

/-- R8: the biased exponent `w[30:23]`. -/
def exponent (w : Word) : Nat := (w.extractLsb' 23 8).toNat

/-- R8: the fraction `w[22:0]`. -/
def fraction (w : Word) : Nat := (w.extractLsb' 0 23).toNat

/-- R8: `w` is finite exactly when `w[30:23] != 0xFF`. -/
def wordFinite (w : Word) : Bool := decide (exponent w ≠ 0xFF)

/-- The magnitude of a finite word in units of `2^-150`: subnormal where the exponent is 0, else with the hidden bit
(binary32, R8). -/
def magnitude (w : Word) : Nat :=
  if exponent w = 0 then 2 * fraction w else (2 ^ 23 + fraction w) * 2 ^ exponent w

/-- R8: the number a finite word denotes, "signed zeros both denote 0"; for any other word a free value
(R214, log entry 17). -/
def val (w : Word) : ℚ :=
  if wordFinite w then
    (if w.getLsbD 31 then -((magnitude w : ℚ) / 2 ^ 150) else (magnitude w : ℚ) / 2 ^ 150)
  else Config.nonFiniteVal w

/-- R8: `fneg(w) = w XOR 0x80000000`, "the negation this spec uses". -/
def fneg (w : Word) : Word := w ^^^ 0x80000000

/-- R131: `(w0, w1, w2, fneg(w3), fneg(w4))`. -/
def Biquad.toDevice (s : Biquad) : Biquad := ⟨s.b0, s.b1, s.b2, fneg s.a1, fneg s.a2⟩

/-- R132: "`to_preview(section) -> section` is the identity." -/
def Biquad.toPreview (s : Biquad) : Biquad := s

/-- R140: the coefficients "enter as `val(w)` of their binary32 words". -/
def Biquad.real (s : Biquad) : RealBiquad := ⟨val s.b0, val s.b1, val s.b2, val s.a1, val s.a2⟩

/-- R23: every word of the section is finite. -/
def Biquad.finite (s : Biquad) : Bool := s.words.all wordFinite

/-- R112's check of the words in order: the lowest-numbered non-finite one (R255). -/
def firstNonFinite (ws : List Word) : Option Nat := ws.findIdx? fun w => !wordFinite w

/-- R61: `flatten(BANK)`, section-major. -/
def flatten (bank : List Biquad) : List Word := bank.flatMap Biquad.words

/-- The sections whose words stand in flat order (R61): the inverse of `flatten`. -/
def sectionsOf : List Word → List Biquad
  | b0 :: b1 :: b2 :: a1 :: a2 :: ws => ⟨b0, b1, b2, a1, a2⟩ :: sectionsOf ws
  | _ => []

/-- R170: `DEVWORDS = flatten([TO_DEVICE(BANK[0]), ...])`. -/
def devWords (bank : List Biquad) : List Word := flatten (bank.map Biquad.toDevice)

/-- Writing `vs` into `l` from index `i` on; an index outside `l` names nothing (R69). -/
def putFrom {α : Type} : List α → Nat → List α → List α
  | l, _, [] => l
  | l, i, v :: vs => putFrom (l.set i v) (i + 1) vs

/-- Sums of the unknowns' coefficients, one by one. -/
def addFree : List ℚ → List ℚ → List ℚ
  | [], bs => bs
  | as, [] => as
  | a :: as, b :: bs => (a + b) :: addFree as bs

/-- The exact sum of two numbers. -/
def Number.add (a b : Number) : Number := ⟨a.rat + b.rat, addFree a.free b.free⟩

/-- The exact product of a rational and a number. -/
def Number.scale (q : ℚ) (a : Number) : Number := ⟨q * a.rat, a.free.map fun c => q * c⟩

/-- Exact real arithmetic (R6's reference for `DEV_ARITH`): R214's sum of products. -/
def exactArith : DevArith where
  mac w t :=
    ((((Number.scale (val w.b0) t.u).add (.scale (val w.b1) t.x1)).add (.scale (val w.b2) t.x2)).add
      (.scale (val w.a1) t.y1)).add (.scale (val w.a2) t.y2)

/-- R6: the arithmetic a `DEV_ARITH` names (log entry 18). -/
def DevSel.arith : DevSel → DevArith
  | .exact => exactArith
  | .impl k => ⟨Config.devMac k⟩

end Sys2Proof
end

