-- ==== Sys2Proof/Machine/Flags.lean ====
section
/-! DEFINITION. The block "has no condition codes or flags register" (R32); what an operation reports is a status code,
returned with it (R250). -/

namespace Sys2Proof.Machine

/-- R250's code values. -/
def Status.code : Status → Byte
  | .ok => 0x00
  | .validationError => 0x01
  | .sourceUnreadableError => 0x02
  | .rowMismatchError => 0x03
  | .linkUnavailableError => 0x04
  | .transmissionError => 0x05
  | .indexRangeError => 0x06

/-- R80: the status byte of a response. -/
def Response.statusByte (r : Response) : Byte := r.status.code

/-- R81, R82: the bytes of a command's results: a `count` is one byte, words follow one another as operands do, and a
byte string is length-prefixed (log entries 2 and 34). -/
def Results.encode : Results → List Byte
  | .none => []
  | .count n => [n]
  | .words ws => ws.flatMap be32
  | .bytes bs => lengthPrefix bs.length ++ bs

/-- R80: "a status byte followed by the results the opcode returns, present only when `st = 0x00`". -/
def Response.encode (r : Response) : List Byte :=
  r.statusByte :: (if r.status = .ok then r.results.encode else [])

end Sys2Proof.Machine
end

