-- ==== Sys2Proof/Machine/Ops.lean ====
section
/-! DEFINITION. The named operations the meanings are made of: answering, raising an error kind and refusing (R250 to R259:
the block's only exceptional behaviour; R256: no handler and no return), the link port's primitives (R232 to R236), the
device's buffer and commit (R207 to R210), and the two resets (R280, R281). -/

namespace Sys2Proof.Machine

/-! ## How a HOST operation ends -/

/-- R9's `return OK, results`. -/
def State.answer (s : State) (r : Results) : State := { s with resp := some ⟨.ok, r⟩ }

/-- R9's `raise E`, R253: the operation answers the kind's status, appends one record to `DIAG`, and changes no other
state. -/
def State.raise (s : State) (op : Byte) (kind : Status) (detail : Detail) : State :=
  { s with resp := some ⟨kind, .none⟩, diag := s.diag ++ [⟨op, kind, detail⟩] }

/-- R259: a refusal sets `REFUSED` and changes no other state of the spec's; nothing is answered. -/
def State.refuse (s : State) (n : RefusalName) : State :=
  { s with resp := none, refused := s.refused.insert n }

/-- R215, R259: the refusal of a sample step: no output, the mark set. -/
def State.refuseSample (s : State) : State :=
  { s with sampleOut := none, refused := s.refused.insert .autoeqFilter }

/-- R258: a device fault is added to `DEV_FAULT` and never removed. -/
def State.recordFault (s : State) (f : DeviceFault) : State := { s with devFault := s.devFault.insert f }

/-! ## Ticks -/

/-- R260: the preview timer is "rescheduled after every tick, whether it computed or skipped"; every TICK_RESPONSE is its
tick, whatever brought it (DEDUCED, log entry 23). -/
def State.rescheduleResp (s : State) : State := { s with respTimer := .rescheduled }

/-- R260: the polling timer is rescheduled; every TICK_POLL is its tick (DEDUCED, log entry 23). -/
def State.reschedulePoll (s : State) : State := { s with pollTimer := .rescheduled }

/-! ## The bank -/

/-- R20's `BANK[idx]`; every index below `N` is in the list (`State.Inv`). -/
def State.sectionAt (s : State) (idx : Nat) : Biquad := s.bank.getD idx Biquad.identity

/-- R112's write of one section, all five words in one step. -/
def State.setSectionAt (s : State) (idx : Nat) (b : Biquad) : State := { s with bank := s.bank.set idx b }

/-! ## The link port -/

/-- R231's effects: `LINK <- CLOSED`, `D2H <- []`; `H2D` is not touched. -/
def State.closeLink (s : State) : State := { s with link := .closed, d2h := [] }

/-- R230's release before a new acquisition: only an open link is closed. -/
def State.releaseLink (s : State) : State :=
  match s.link with
  | .opened _ => s.closeLink
  | .closed => s

/-- R230: `LINK <- OPEN(port)`. -/
def State.openLink (s : State) (port : Port) : State := { s with link := .opened port }

/-- Whether byte `n` of the messages written back to back falls between two of them (R213), the start included and the
end excluded by R233's `n < len`. -/
def onBoundary : List (List Byte) → Nat → Bool
  | _, 0 => true
  | [], _ + 1 => false
  | m :: ms, n + 1 => decide (m.length ≤ n + 1) && onBoundary ms (n + 1 - m.length)

/-- R233's draw: a write of `len` bytes fails after `n` bytes when the draw says so and `n < len`. -/
def writeFailure (draw : Option Nat) (len : Nat) : Option Nat :=
  match draw with
  | some n => if n < len then some n else none
  | none => none

/-- R213: a write cut inside a message records `DEV_DESYNC` at that step. -/
def State.cutAt (s : State) (msgs : List (List Byte)) (n : Nat) : State :=
  if onBoundary msgs n then s else s.recordFault .desync

/-- R232, R233: `LinkWrite` of messages back to back (R177). Its answer is `none`, or `some n` for `FAIL(n)`. -/
def State.linkWrite (s : State) (msgs : List (List Byte)) : State × Option Nat :=
  match writeFailure s.writeDraw msgs.flatten.length with
  | none => ({ s with h2d := s.h2d ++ msgs.flatten }, none)
  | some n => (State.cutAt { s with h2d := s.h2d ++ msgs.flatten.take n } msgs n, some n)

/-- R175, R184, R185: write the messages; a failure is TransmissionError with the bytes delivered, the link left open. -/
def State.transmit (s : State) (op : Byte) (msgs : List (List Byte)) : State :=
  match s.linkWrite msgs with
  | (t, none) => t.answer .none
  | (t, some n) => t.raise op .transmissionError (.delivered n)

/-- R236: `D2H <- []`; the bytes returned are `s.d2h`, all of them. -/
def State.drainD2h (s : State) : State := { s with d2h := [] }

/-- R235: the byte is appended while a link is open and lost while it is closed. -/
def State.telemetryByte (s : State) (b : Byte) : State :=
  match s.link with
  | .opened _ => { s with d2h := s.d2h ++ [b] }
  | .closed => s

/-! ## The device -/

/-- R207: the frame's words go to `DEV_SHADOW` and set their `DEV_WMASK` bits. -/
def State.bufferFrame (s : State) (si : Byte) (data : List Word) : State :=
  { s with
    devShadow := putFrom s.devShadow si.toNat data
    devWmask := putFrom s.devWmask si.toNat (data.map fun _ => true) }

/-- R209, R210: the word a commit gives flat index `j`, the buffered one where it was written since the last commit, a
draw where it was not. -/
def State.committedWord (s : State) (j : Nat) : Word :=
  if s.devWmask.getD j false then s.devShadow.getD j (Config.freeWord (s.draws + j))
  else Config.freeWord (s.draws + j)

/-- R209: the commit, all of the bank at once, with what `COMMIT_CLEARS_STATE` and `COMMIT_EXITS_AUTOEQ` add. -/
def State.commit (s : State) : State :=
  { s with
    devActive := (List.range s.par.NF).map s.committedWord
    devWmask := List.replicate s.par.NF false
    devDly := if s.par.commitClearsState then List.replicate s.par.N Delay.zero else s.devDly
    devMode := if s.par.commitExitsAutoeq then .normal else s.devMode
    draws := s.draws + s.par.NF }

/-- The receiver's next parse state (R38). -/
def State.setRx (s : State) (st : RxState) : State := { s with devRx := st }

/-! ## Resets -/

/-- R280: a block reset sets every piece of host-side state and the two queues; it "does not reset the device" (R281). -/
def State.blockReset (s : State) : State :=
  { s with
    bank := bankAtReset s.par
    respSnap := none
    respPub := none
    link := .closed
    h2d := []
    d2h := []
    telem := []
    diag := []
    refused := []
    respTimer := .firstTickPending
    pollTimer := .firstTickPending
    resp := none }

/-- R281: a device reset sets the device's state and nothing of the block's; its draws are fresh words. -/
def State.deviceReset (s : State) : State :=
  { s with
    devActive := activeAtReset s.par s.draws
    devShadow := freeWords (s.draws + s.par.NF) s.par.NF
    devWmask := List.replicate s.par.NF false
    devRx := .idle
    devMode := .normal
    devDly := List.replicate s.par.N Delay.zero
    devFault := []
    sampleOut := none
    draws := s.draws + 2 * s.par.NF }

end Sys2Proof.Machine
end

