-- ==== Sys2Proof/Machine/Bank.lean ====
section
/-! DEFINITION. The bank's three operations (40_bank.md). -/

namespace Sys2Proof.Machine

/-- SECTION_COUNT (R110). -/
def execSectionCount (s : State) : Host.Outcome State Fault Refusal :=
  .next (s.answer (.count (BitVec.ofNat 8 s.par.N)))

/-- GET_SECTION (R111): the words as stored; an index `>= N` is IndexRangeError. -/
def execGetSection (idx : Byte) (s : State) : Host.Outcome State Fault Refusal :=
  .next (if s.par.N ≤ idx.toNat then s.raise 0x02 .indexRangeError (.idx idx)
    else s.answer (.words (s.sectionAt idx.toNat).words))

/-- SET_SECTION (R112, R255): index, then count, then the lowest-numbered non-finite word; all checks before the write. -/
def execSetSection (idx : Byte) (ws : List Word) (s : State) : Host.Outcome State Fault Refusal :=
  .next (if s.par.N ≤ idx.toNat then s.raise 0x03 .indexRangeError (.idx idx)
    else
      match ws with
      | [b0, b1, b2, a1, a2] =>
        match firstNonFinite [b0, b1, b2, a1, a2] with
        | some c => s.raise 0x03 .validationError (.word c)
        | none => (s.setSectionAt idx.toNat ⟨b0, b1, b2, a1, a2⟩).answer .none
      | _ => s.raise 0x03 .validationError (.count ws.length))

end Sys2Proof.Machine
end

