-- ==== Sys2Proof/Machine/Cascade.lean ====
section
/-! DEFINITION. The device's sample step: its recurrence over the active bank in `DEV_ARITH` (R214). -/

namespace Sys2Proof.Machine

/-- R214's loop over the sections in cascade order, five active words and one delay record each: the delays after the
step and the output. -/
def cascadeStep (A : DevArith) : List Word → List Delay → Number → List Delay × Number
  | b0 :: b1 :: b2 :: d1 :: d2 :: ws, d :: ds, u =>
    let y := A.mac ⟨b0, b1, b2, d1, d2⟩ ⟨u, d.x1, d.x2, d.y1, d.y2⟩
    (⟨u, d.x1, y, d.y1⟩ :: (cascadeStep A ws ds y).1, (cascadeStep A ws ds y).2)
  | _, ds, u => (ds, u)

/-- R214 in normal mode: `DEV_ACTIVE` read as one snapshot, `DEV_DLY` written, the output given. -/
def State.runSample (s : State) (x : Number) : State :=
  { s with
    devDly := (cascadeStep s.par.devArith.arith s.devActive s.devDly x).1
    sampleOut := some (cascadeStep s.par.devArith.arith s.devActive s.devDly x).2 }

/-- SAMPLE (R214, R215): refused `AUTOEQ_FILTER` in auto-EQ mode. -/
def execSample (x : Number) (s : State) : Host.Outcome State Fault Refusal :=
  .next (match s.devMode with
    | .autoeq => s.refuseSample
    | .normal => s.runSample x)

end Sys2Proof.Machine
end

