-- ==== Sys2Proof/Machine/LinkPort.lean ====
section
/-! DEFINITION. The link port's operations (45_link.md). -/

namespace Sys2Proof.Machine

/-- LINK_OPEN (R230, R255): an open link is released first, whatever follows. -/
def execLinkOpen (port : Port) (s : State) : Host.Outcome State Fault Refusal :=
  .next (if s.par.portValid port then (s.releaseLink.openLink port).answer .none
    else s.releaseLink.raise 0x20 .linkUnavailableError (.port port))

/-- LINK_CLOSE (R231). -/
def execLinkClose (s : State) : Host.Outcome State Fault Refusal :=
  .next (s.closeLink.answer .none)

/-- READ_AVAILABLE (R236, R237): all that has arrived, at once, the empty string too. -/
def execReadAvailable (s : State) : Host.Outcome State Fault Refusal :=
  .next (match s.link with
    | .closed => s.raise 0x22 .linkUnavailableError .none
    | .opened _ => s.drainD2h.answer (.bytes s.d2h))

/-- TICK_POLL (R238): what has arrived goes to the telemetry sink, nothing while the link is closed; the polling timer is
rescheduled (R260). -/
def execTickPoll (s : State) : Host.Outcome State Fault Refusal :=
  .next (match s.link with
    | .closed => s.reschedulePoll.answer .none
    | .opened _ => (State.reschedulePoll { s.drainD2h with telem := s.telem ++ s.d2h }).answer .none)

end Sys2Proof.Machine
end

