-- ==== Sys2Proof/Machine/Packetizer.lean ====
section
/-! DEFINITION. The packetizer (43_packetizer.md): the fragment plan, UPLOAD and SEND_AUTOEQ. -/

namespace Sys2Proof.Machine

/-- R7: `ceil_div(x, y) = (x + y - 1) div y`. -/
def ceilDiv (x y : Nat) : Nat := (x + y - 1) / y

/-- R173: the number of fragments `F`. -/
def fragmentCount (p : Params) : Nat := ceilDiv p.NF p.chunk

/-- R174: `s_k = k·CHUNK`. -/
def fragmentStart (p : Params) (k : Nat) : Nat := k * p.chunk

/-- R174: `pc_k = min(CHUNK, NF − s_k)`. -/
def fragmentLength (p : Params) (k : Nat) : Nat := min p.chunk (p.NF - fragmentStart p k)

/-- R174: the words of fragment `k`. -/
def fragmentData (p : Params) (ws : List Word) (k : Nat) : List Word :=
  (ws.drop (fragmentStart p k)).take (fragmentLength p k)

/-- R174: `TERM_FINAL` on the last fragment, `TERM_MORE` on the others. -/
def fragmentTerm (p : Params) (k : Nat) : Byte := if k + 1 = fragmentCount p then p.termFinal else p.termMore

/-- R175, R176: the bytes of fragment `k`. -/
def fragmentBytes (p : Params) (ws : List Word) (k : Nat) : List Byte :=
  [BitVec.ofNat 8 (fragmentLength p k), BitVec.ofNat 8 (fragmentStart p k)] ++ bytesOf (fragmentData p ws k) ++
    [fragmentTerm p k]

/-- R177: the frames of a transfer, in increasing `k`. -/
def transferFrames (p : Params) (ws : List Word) : List (List Byte) :=
  (List.range (fragmentCount p)).map (fragmentBytes p ws)

/-- UPLOAD (R175, R184): the whole bank in device convention, one `LinkWrite`. -/
def execUpload (s : State) : Host.Outcome State Fault Refusal :=
  .next (match s.link with
    | .closed => s.raise 0x10 .linkUnavailableError .none
    | .opened _ => s.transmit 0x10 (transferFrames s.par (devWords s.bank)))

/-- SEND_AUTOEQ (R185, R255): refused while `AUTOEQ_SEQ` is unset, before the link is looked at. -/
def execSendAutoeq (s : State) : Host.Outcome State Fault Refusal :=
  .next (match s.par.autoeqSeq with
    | none => s.refuse .autoeqUnspecified
    | some seq =>
      match s.link with
      | .closed => s.raise 0x11 .linkUnavailableError .none
      | .opened _ => s.transmit 0x11 [seq])

end Sys2Proof.Machine
end

