-- ==== Sys2Proof/Machine/Response.lean ====
section
/-! DEFINITION. The preview's computation (R142 to R149, R154) on plain data. Machine/Reference.lean holds the same meaning
over the real and complex numbers. -/

namespace Sys2Proof.Machine

/-- Whether `c0 + c1·e^{-jω} + c2·e^{-2jω} = 0` at the grid point `ω = π·k/m`, `k < m` (R141, R144), decided exactly for
rational coefficients: at `k = 0` it is the sum; elsewhere the imaginary part of the expression over `e^{-jω}` asks for
`c0 = c2` and its real part for `c1 = -2·c0·cos ω`, and the only rational values of `2·cos(π·k/m)` with `0 < k < m` are 1,
0 and -1 (Niven's theorem), at thirds and at the half (DEDUCED, log entry 21; safe: `Obligations` states the equivalence). -/
def vanishesAt (c0 c1 c2 : ℚ) (k m : Nat) : Bool :=
  if k = 0 then decide (c0 + c1 + c2 = 0)
  else
    decide (c0 = c2) &&
      ((decide (c0 = 0) && decide (c1 = 0)) || (decide (3 * k = m) && decide (c1 = -c0)) ||
        (decide (2 * k = m) && decide (c1 = 0)) || (decide (3 * k = 2 * m) && decide (c1 = c0)))

/-- R146: some section's denominator vanishes at some point of the whole grid. -/
def exactFails (ss : List RealBiquad) (m : Nat) : Bool :=
  ss.any fun s => (List.range m).any fun k => vanishesAt 1 s.a1 s.a2 k m

/-- R153: a section whose numerator is its denominator, so that `H_i = 1` wherever it is defined. -/
def flatSection (s : RealBiquad) : Bool := decide (s.b0 = 1) && decide (s.b1 = s.a1) && decide (s.b2 = s.a2)

/-- R147, R148: the point at grid index `k` of a bank whose evaluation does not fail: `(NEG_INF, 0)` where `H = 0`; else
the magnitude and phase of the sections that are not flat (R153), which are `(0, 0)` where there are none (R151). -/
def exactPoint (ss : List RealBiquad) (m k : Nat) : RespPoint :=
  if ss.any fun s => vanishesAt s.b0 s.b1 s.b2 k m then ⟨none, .rat 0⟩
  else
    match ss.filter fun s => !flatSection s with
    | [] => ⟨some (.rat 0), .rat 0⟩
    | live => ⟨some (.magDb live k m), .phaseDeg live k m⟩

/-- R149: "a defined all-zero response", `P` points `(0.0, 0.0)`. -/
def allZeroResponse (p : Params) : List RespPoint := List.replicate p.P ⟨some (.rat 0), .rat 0⟩

/-- R149 in exact arithmetic. -/
def exactResponse (p : Params) (bank : List Biquad) : List RespPoint :=
  if exactFails (bank.map Biquad.real) p.M then allZeroResponse p
  else (List.range p.P).map (exactPoint (bank.map Biquad.real) p.M)

/-- A point with a phase that R27 allows; an opaque point whose phase is not becomes one with phase 0, which only keeps
the bound true of every instance (log entry 19). -/
def legalPoint (r : RespPoint) : RespPoint := if r.ph.legal then r else ⟨r.mag, .rat 0⟩

/-- R154: the response the instance's `RESP_ARITH` gives the bank's words: failure or `P` points, "depending on the words
alone". -/
def response (p : Params) (ws : List Word) : List RespPoint :=
  match p.respArith with
  | .exact => exactResponse p (sectionsOf ws)
  | .impl k =>
    if Config.respFails k ws then allZeroResponse p
    else (List.range p.P).map fun i => legalPoint (Config.respPoint k ws i)

end Sys2Proof.Machine
end

