-- ==== Sys2Proof/Machine/Preview.lean ====
section
/-! DEFINITION. The preview's one operation (R150). -/

namespace Sys2Proof.Machine

/-- R150's write: the response of the bank as stored (R143), and the snapshot it was computed from. -/
def State.publish (s : State) : State :=
  { s with respPub := some (response s.par (flatten s.bank)), respSnap := some (flatten s.bank) }

/-- TICK_RESPONSE (R150): nothing is recomputed while the snapshot equals the bank, bit for bit; the preview timer is
rescheduled either way (R150's "skip recomputation and reschedule", R260). -/
def execTickResponse (s : State) : Host.Outcome State Fault Refusal :=
  .next (if s.respSnap = some (flatten s.bank) then s.rescheduleResp.answer .none
    else s.publish.rescheduleResp.answer .none)

end Sys2Proof.Machine
end

