-- ==== Sys2Proof/Machine/Receiver.lean ====
section
/-! DEFINITION. The device receiver (44_device_receiver.md): the parse of one byte, and what the three link messages do. -/

namespace Sys2Proof.Machine

/-- What a byte does to the parse: another parse state, a complete message, or a loss of framing. -/
inductive RxOut where
  | goto (st : RxState)
  | run (i : Instr)
  | desync
  deriving DecidableEq, Repr

/-- R201, R202: a byte in `IDLE`. -/
def rxIdle (p : Params) (b : Byte) : RxOut :=
  if startsFrame b then .goto (.gotPc b.toNat)
  else
    match p.autoeqSeq with
    | some (a :: rest) => if b = a then (if rest = [] then .run .autoeqCmd else .goto (.seq 1)) else .desync
    | _ => .desync

/-- R211: a byte inside the auto-EQ command. -/
def rxSeq (p : Params) (m : Nat) (b : Byte) : RxOut :=
  match p.autoeqSeq with
  | some seq =>
    if seq[m]? = some b then (if m + 1 = seq.length then .run .autoeqCmd else .goto (.seq (m + 1))) else .desync
  | none => .desync

/-- R201 to R206, R211: the rule of the receiver's state for one byte. -/
def rxAccept (p : Params) : RxState → Byte → RxOut
  | .idle, b => rxIdle p b
  | .gotPc pc, b => if b.toNat + pc ≤ p.NF then .goto (.data pc b []) else .desync
  | .data pc si d, b =>
    if (d ++ [b]).length = 4 * pc then .goto (.awaitTerm pc si (d ++ [b])) else .goto (.data pc si (d ++ [b]))
  | .awaitTerm _ si d, b =>
    match frameOf p si d b with
    | some i => .run i
    | none => .desync
  | .seq m, b => rxSeq p m b

/-- FRAG_MORE (R208): buffer, then `IDLE`. A frame that is not legal (R87) is malformed: `DEV_DESYNC` (R91, R203), and
nothing is buffered; the receiver's own parse lets none through. -/
def execFragMore (si : Byte) (data : List Word) (s : State) : Host.Outcome State Fault Refusal :=
  .next (if frameLegal s.par si data then (s.bufferFrame si data).setRx .idle else s.recordFault .desync)

/-- FRAG_FINAL (R209): buffer, then commit, in the same step. -/
def execFragFinal (si : Byte) (data : List Word) (s : State) : Host.Outcome State Fault Refusal :=
  .next (if frameLegal s.par si data then (s.bufferFrame si data).commit.setRx .idle else s.recordFault .desync)

/-- AUTOEQ_CMD complete (R211): the device enters auto-EQ mode. -/
def execAutoeqCmd (s : State) : Host.Outcome State Fault Refusal :=
  .next (State.setRx { s with devMode := .autoeq } .idle)

end Sys2Proof.Machine
end

