-- ==== Sys2Proof/Machine/Sign.lean ====
section
/-! DEFINITION. The sign-convention unit's two pure transforms (41_sign_adapter.md). -/

namespace Sys2Proof.Machine

/-- TO_DEVICE (R131): total, no check of the words. -/
def execToDevice (sec : Biquad) (s : State) : Host.Outcome State Fault Refusal :=
  .next (s.answer (.words sec.toDevice.words))

/-- TO_PREVIEW (R132). -/
def execToPreview (sec : Biquad) (s : State) : Host.Outcome State Fault Refusal :=
  .next (s.answer (.words sec.toPreview.words))

end Sys2Proof.Machine
end

