-- ==== Sys2Proof/Machine/Dispatch.lean ====
section
/-! DEFINITION. The dispatch: each operation to its own meaning. -/

namespace Sys2Proof.Machine

/-- R82, R88, R90, R92: each row of the opcode table has one meaning. -/
def exec (i : Instr) (s : State) : Host.Outcome State Fault Refusal :=
  match i with
  | .sectionCount => Sys2Proof.Machine.execSectionCount s
  | .getSection idx => Sys2Proof.Machine.execGetSection idx s
  | .setSection idx ws => Sys2Proof.Machine.execSetSection idx ws s
  | .toDevice sec => Sys2Proof.Machine.execToDevice sec s
  | .toPreview sec => Sys2Proof.Machine.execToPreview sec s
  | .upload => Sys2Proof.Machine.execUpload s
  | .sendAutoeq => Sys2Proof.Machine.execSendAutoeq s
  | .linkOpen port => Sys2Proof.Machine.execLinkOpen port s
  | .linkClose => Sys2Proof.Machine.execLinkClose s
  | .readAvailable => Sys2Proof.Machine.execReadAvailable s
  | .tickResponse => Sys2Proof.Machine.execTickResponse s
  | .tickPoll => Sys2Proof.Machine.execTickPoll s
  | .fragMore si data => Sys2Proof.Machine.execFragMore si data s
  | .fragFinal si data => Sys2Proof.Machine.execFragFinal si data s
  | .autoeqCmd => Sys2Proof.Machine.execAutoeqCmd s
  | .sample x => Sys2Proof.Machine.execSample x s

end Sys2Proof.Machine
end

