-- ==== Sys2Proof/Machine/Agents.lean ====
section
/-! DEFINITION. What each event makes its agent do (R3, R93, R260): HOST takes a transaction, DEV_RX a byte, DEV_TX appends
one, DEV_DSP takes a sample; the resets are the environment's (R281). -/

namespace Sys2Proof.Machine

/-- The event that comes next: the head of `inbox`, or, where nothing is placed there, the environment's free choice
(R261, log entry 5). -/
def State.nextEvent (s : State) : Event := s.inbox.headD (Config.envEvent s.pos)

/-- The event is taken: R34's position moves on. -/
def State.popEvent (s : State) : State := { s with inbox := s.inbox.tail, pos := s.pos + 1 }

/-- Bytes after a transaction are the next one, still waiting at the port (R80; log entry 14). -/
def State.pushBack (s : State) (rest : List Byte) (draw : Option Nat) : State :=
  match rest with
  | [] => s
  | b :: bs => { s with inbox := .command (b :: bs) draw :: s.inbox }

/-- HOST takes one transaction from the command port (R80, R82); its `LinkWrite` takes the event's draw (R233). A reserved
opcode is refused `RESERVED_OPCODE` (R84, R259). -/
def hostCommand (bytes : List Byte) (draw : Option Nat) (s : State) : Host.Outcome State Fault Refusal :=
  match decodeCommand bytes with
  | .ok i rest => exec i (State.pushBack { s with writeDraw := draw } rest draw)
  | .reject (.reservedOpcode _) => .next (s.refuse .reservedOpcode)
  | .reject _ => .fault (.portWaits bytes)

/-- What the parse of one byte leads to: the receiver moves on, a message is carried out, or `DEV_DESYNC` is recorded. -/
def rxFinish (o : RxOut) (s : State) : Host.Outcome State Fault Refusal :=
  match o with
  | .goto st => .next (s.setRx st)
  | .run i => exec i s
  | .desync => .next (s.recordFault .desync)

/-- DEV_RX (R200): no step after `DEV_DESYNC` or on an empty `H2D` (the event passes and nothing changes, log entry 12);
else one byte. -/
def devRxStep (s : State) : Host.Outcome State Fault Refusal :=
  if s.devFault.contains .desync then .next s
  else
    match s.h2d with
    | [] => .next s
    | b :: rest => rxFinish (rxAccept s.par s.devRx b) { s with h2d := rest }

/-- What an event does. A timer's tick is its tick operation, as the same operation on the command port is its tick
(R260; DEDUCED, log entry 23). -/
def deliver (e : Event) (s : State) : Host.Outcome State Fault Refusal :=
  match e with
  | .command bytes draw => hostCommand bytes draw s
  | .timerResponse => exec .tickResponse s
  | .timerPoll => exec .tickPoll s
  | .devRx => devRxStep s
  | .devTx b => .next (s.telemetryByte b)
  | .sample x => exec (.sample x) s
  | .blockReset => .next s.blockReset
  | .deviceReset => .next s.deviceReset

end Sys2Proof.Machine
end

