-- ==== Sys2Proof/Machine/Step.lean ====
section
/-! DEFINITION. One step of the machine: the next event is taken and delivered. -/

namespace Sys2Proof.Machine

/-- One step (R3, R34, R71): one event, delivered to its agent. -/
def step (s : State) : Host.Outcome State Fault Refusal := deliver s.nextEvent s.popEvent

/-- `s` with one command transaction issued next: the instruction whose first `nbits` bits are `w`, its other operand
bytes zeros. A program is placed from outside the machine (log entry 6); this stands for that. -/
def State.withFetchWord (s : State) (nbits w : Nat) : State :=
  { s with inbox := .command (tableTransaction nbits w) none :: s.inbox }

end Sys2Proof.Machine
end

