-- ==== Sys2Proof/Machine/Pseudo.lean ====
section
/-! DEFINITION. The pseudo-operations, which "expand to SET_SECTION" (R94 to R96), and what a decimal operand denotes (R93). -/

namespace Sys2Proof.Machine

/-- What the importer was given (R94): a source it cannot read, a cancelled selection, or what it read. -/
inductive Source (α : Type) where
  | unreadable
  | cancelled
  | read (x : α)
  deriving DecidableEq, Repr

/-- The three pseudo-operations (R94, R95, R96). -/
inductive Pseudo where
  | importSection (t : Byte) (src : Source (List Word))
  | importBank (src : Source (List (List Word)))
  | boostBass (sec : Biquad)
  deriving DecidableEq, Repr

/-- The `idx` operand for row or section `i`. No index above 255 fits the `u8`; such a row goes out as 255, which is
`>= N` as its own index is (R6, R95; DESIGN CHOICE, log entry 29; safe: only the recorded `idx` differs). -/
def idxOf (i : Nat) : Byte := BitVec.ofNat 8 (min i 255)

/-- R95: rows of five numbers become SET_SECTION of their own index, the others nothing. -/
def expandRows : Nat → List (List Word) → List Instr
  | _, [] => []
  | i, r :: rs => if r.length = 5 then .setSection (idxOf i) r :: expandRows (i + 1) rs else expandRows (i + 1) rs

/-- R94 to R96: the operations a pseudo-operation stands for. A single-section row of more than 255 numbers, whose count no
`u8` holds (R81), goes out whole, and SET_SECTION rejects it recording its full length (DESIGN CHOICE, log entry 35; safe:
it is a ValidationError whatever count is recorded). -/
def Pseudo.expand (p : Params) : Pseudo → List Instr
  | .importSection t (.read row) => [.setSection t row]
  | .importSection _ .unreadable => []
  | .importSection _ .cancelled => []
  | .importBank (.read rows) => expandRows 0 rows
  | .importBank .unreadable => []
  | .importBank .cancelled => []
  | .boostBass sec => (List.range p.N).map fun i => .setSection (idxOf i) sec.words

/-- R94, R95, R252: what the importer itself reports, outside the block's `DIAG`. -/
def Pseudo.reports : Pseudo → List Status
  | .importSection _ .unreadable => [.sourceUnreadableError]
  | .importSection _ .cancelled => []
  | .importSection _ (.read _) => []
  | .importBank .unreadable => [.sourceUnreadableError]
  | .importBank .cancelled => []
  | .importBank (.read rows) => (rows.filter fun r => decide (r.length ≠ 5)).map fun _ => .rowMismatchError
  | .boostBass _ => []

/-- Operations one after the other (R71). -/
def execAll : List Instr → State → Host.Outcome State Fault Refusal
  | [], s => .next s
  | i :: is, s =>
    match exec i s with
    | .next t => execAll is t
    | .fault r => .fault r
    | .refused r => .refused r

/-- The nearest integer of a number that is not negative, ties to even. -/
def roundHalfEven (q : ℚ) : Nat :=
  let f := q.floor.toNat
  if q - f < 1 / 2 then f else if 1 / 2 < q - f then f + 1 else if f % 2 = 0 then f else f + 1

/-- The exponent of the last place of the binary32 number nearest `a > 0`: 23 below its leading bit, and at least -149. -/
def ulpExponent (a : ℚ) : Int := max (Int.log 2 a - 23) (-149)

/-- R93: "a decimal number, which denotes the binary32 word nearest to it with ties to even"; one too large becomes the
infinity of its sign, which SET_SECTION then rejects (R112). Both zero words are equally near 0: the number 0 is the
positive zero, and a negative number that rounds to zero the negative one (DESIGN CHOICE, log entry 31; safe: notation of
programs, and both words have the value 0). -/
def wordOfRat (q : ℚ) : Word :=
  let a := |q|
  let e := ulpExponent a
  let bits := if a = 0 then 0 else min ((e + 149).toNat * 2 ^ 23 + roundHalfEven (a / 2 ^ e)) 0x7F800000
  BitVec.ofNat 32 (if q < 0 then bits + 2 ^ 31 else bits)

end Sys2Proof.Machine
end

