-- ==== Sys2Proof/Machine/Reference.lean ====
section
/-! DEFINITION. The cascade's reference meaning, over the reals as a recurrence (R140) and over the real and complex
numbers as a frequency response (R141 to R149). Statements cite it; no step runs it. -/

namespace Sys2Proof

/-- The real number that a number of exact arithmetic is, for real values `ρ` of the unknowns from the `i`-th on. -/
noncomputable def freePart (ρ : Nat → ℝ) : Nat → List ℚ → ℝ
  | _, [] => 0
  | i, c :: cs => c * ρ i + freePart ρ (i + 1) cs

/-- The real number that a number of exact arithmetic is, for any real values `ρ` of the unknowns (log entry 16). -/
noncomputable def Number.real (ρ : Nat → ℝ) (x : Number) : ℝ := x.rat + freePart ρ 0 x.free

end Sys2Proof

namespace Sys2Proof.Machine

/-! ## The recurrence (R140) -/

/-- R140 for one section in host convention, in exact real arithmetic: `y[n]` from the whole input sequence, "every
delayed value before `n = 0` zero". -/
noncomputable def hostSection (s : Biquad) (x : Nat → ℝ) : Nat → ℝ
  | 0 => val s.b0 * x 0
  | 1 => val s.b0 * x 1 + val s.b1 * x 0 - val s.a1 * hostSection s x 0
  | n + 2 => val s.b0 * x (n + 2) + val s.b1 * x (n + 1) + val s.b2 * x n - val s.a1 * hostSection s x (n + 1)
      - val s.a2 * hostSection s x n

/-- R140: "section *i*'s output is section *i+1*'s input", in cascade order. -/
noncomputable def hostCascade : List Biquad → (Nat → ℝ) → Nat → ℝ
  | [], x => x
  | s :: ss, x => hostCascade ss (hostSection s x)

/-- R130: one section in device convention, `d1 = -a1`, `d2 = -a2`, its products added. -/
noncomputable def deviceSection (s : Biquad) (x : Nat → ℝ) : Nat → ℝ
  | 0 => val s.b0 * x 0
  | 1 => val s.b0 * x 1 + val s.b1 * x 0 + val s.a1 * deviceSection s x 0
  | n + 2 => val s.b0 * x (n + 2) + val s.b1 * x (n + 1) + val s.b2 * x n + val s.a1 * deviceSection s x (n + 1)
      + val s.a2 * deviceSection s x n

/-- The device's cascade in device convention (R214), as sequences. -/
noncomputable def deviceCascade : List Biquad → (Nat → ℝ) → Nat → ℝ
  | [], x => x
  | s :: ss, x => deviceCascade ss (deviceSection s x)

/-! ## The frequency response -/

/-- R144: `ω_k = π·k/m`. -/
noncomputable def gridAngle (k m : Nat) : ℝ := Real.pi * k / m

/-- `c0 + c1·e^{-jω} + c2·e^{-2jω}`. -/
noncomputable def trinomial (c0 c1 c2 : ℚ) (ω : ℝ) : ℂ :=
  (c0 : ℂ) + (c1 : ℂ) * Complex.exp (-(ω * Complex.I)) + (c2 : ℂ) * Complex.exp (-(2 * ω * Complex.I))

/-- R141: the numerator `B_i(ω)`. -/
noncomputable def numerator (s : RealBiquad) (ω : ℝ) : ℂ := trinomial s.b0 s.b1 s.b2 ω

/-- R141: the denominator `D_i(ω)`, `a1` and `a2` "used as stored". -/
noncomputable def denominator (s : RealBiquad) (ω : ℝ) : ℂ := trinomial 1 s.a1 s.a2 ω

/-- R141: `H_i(ω)`. -/
noncomputable def transfer (s : RealBiquad) (ω : ℝ) : ℂ := numerator s ω / denominator s ω

/-- R142: `H(ω) = Π H_i(ω)`. -/
noncomputable def cascadeTransfer (ss : List RealBiquad) (ω : ℝ) : ℂ := (ss.map fun s => transfer s ω).prod

/-- R147: `20·log10(|H|)`. -/
noncomputable def magnitudeDb (H : ℂ) : ℝ := 20 * Real.logb 10 ‖H‖

/-- R148: `arg(H)·180/π`, `arg` the principal value. -/
noncomputable def phaseDegrees (H : ℂ) : ℝ := Complex.arg H * 180 / Real.pi

/-- R146: `∃ i < N, ∃ k < M : D_i(ω_k) = 0`. -/
def EvaluationFails (ss : List RealBiquad) (m : Nat) : Prop :=
  ∃ s ∈ ss, ∃ k < m, denominator s (gridAngle k m) = 0

open Classical in
/-- R147, R148: a point `(mag_k, ph_k)`, `none` for `NEG_INF`. -/
noncomputable def referencePoint (ss : List RealBiquad) (m k : Nat) : Option ℝ × ℝ :=
  if cascadeTransfer ss (gridAngle k m) = 0 then (none, 0)
  else (some (magnitudeDb (cascadeTransfer ss (gridAngle k m))), phaseDegrees (cascadeTransfer ss (gridAngle k m)))

open Classical in
/-- R149: `RESPONSE(bank)`. -/
noncomputable def referenceResponse (p : Params) (bank : List Biquad) : List (Option ℝ × ℝ) :=
  if EvaluationFails (bank.map Biquad.real) p.M then List.replicate p.P (some 0, 0)
  else (List.range p.P).map (referencePoint (bank.map Biquad.real) p.M)

/-- The real number a published magnitude names (log entry 20). -/
noncomputable def magOf : RespMag → ℝ
  | .rat q => q
  | .magDb ss k m => magnitudeDb (cascadeTransfer ss (gridAngle k m))
  | .free i => Config.freeReal i

/-- The real number a published phase names (log entry 20). -/
noncomputable def phaseOf : RespPhase → ℝ
  | .rat q => q
  | .phaseDeg ss k m => phaseDegrees (cascadeTransfer ss (gridAngle k m))
  | .free i => phaseDegrees (Config.freeComplex i)

/-- The point a published point names. -/
noncomputable def pointOf (r : RespPoint) : Option ℝ × ℝ := (r.mag.map magOf, phaseOf r.ph)

end Sys2Proof.Machine
end

