-- ==== Sys2Proof/Safety.lean ====
section
/-! DEFINITION. The invariant of the machine, what it is for the bytes in flight to be whole messages, and what a safe run
is. -/

namespace Sys2Proof.Machine

/-- R38's bounds on the parse states, with R87's on the frame being received. -/
def RxState.Ok (p : Params) : RxState → Prop
  | .idle => True
  | .gotPc pc => 1 ≤ pc ∧ pc ≤ Config.maxPc
  | .data pc si d => 1 ≤ pc ∧ pc ≤ Config.maxPc ∧ si.toNat + pc ≤ p.NF ∧ d.length < 4 * pc
  | .awaitTerm pc si d => 1 ≤ pc ∧ pc ≤ Config.maxPc ∧ si.toNat + pc ≤ p.NF ∧ d.length = 4 * pc
  | .seq m => ∃ q, p.autoeqSeq = some q ∧ 1 ≤ m ∧ m < q.length

/-- What every state of a run satisfies. -/
structure State.Inv (s : State) : Prop where
  /-- R6: every constraint on the parameters. -/
  parValid : s.par.Valid
  /-- R20: `N` sections. -/
  bankLength : s.bank.length = s.par.N
  /-- R23: every word of the bank is finite. -/
  bankFinite : ∀ b ∈ s.bank, b.finite = true
  /-- R150: what is published is the response of the snapshot. -/
  published : s.respPub = s.respSnap.map (response s.par)
  /-- R26: the snapshot is `NF` words. -/
  snapLength : ∀ w, s.respSnap = some w → w.length = s.par.NF
  /-- R231: no telemetry waits while the link is closed. -/
  closedEmpty : s.link = .closed → s.d2h = []
  /-- R35. -/
  activeLength : s.devActive.length = s.par.NF
  /-- R36. -/
  shadowLength : s.devShadow.length = s.par.NF
  /-- R37. -/
  wmaskLength : s.devWmask.length = s.par.NF
  /-- R40. -/
  dlyLength : s.devDly.length = s.par.N
  /-- R38. -/
  rxOk : RxState.Ok s.par s.devRx

/-- The parse of bytes one after the other, every complete message taken to leave the receiver in `IDLE` (R208, R209,
R211); `none` when the framing is lost. -/
def rxParse (p : Params) : RxState → List Byte → Option RxState
  | st, [] => some st
  | st, b :: bs =>
    match rxAccept p st b with
    | .goto st' => rxParse p st' bs
    | .run _ => rxParse p .idle bs
    | .desync => none

/-- No framing has been lost, and what is in flight completes what the receiver has begun, message by message. -/
def State.FramingIntact (s : State) : Prop :=
  s.devFault = [] ∧ rxParse s.par s.devRx s.h2d = some .idle

/-- The receiver is inside a transfer of the words `ws` (R175, R212): `k` of its bytes have been consumed, the others head
what is in flight, and every fragment received whole is buffered (R207). -/
structure State.MidTransfer (s : State) (ws : List Word) (k : Nat) (later : List Byte) : Prop where
  /-- R200: nothing has been lost. -/
  noFault : s.devFault = []
  /-- Bytes are left. -/
  unfinished : k < (transferFrames s.par ws).flatten.length
  /-- R72: they come first, in order. -/
  inFlight : s.h2d = (transferFrames s.par ws).flatten.drop k ++ later
  /-- R201 to R206: the parse stands where those bytes leave it. -/
  parse : rxParse s.par .idle ((transferFrames s.par ws).flatten.take k) = some s.devRx
  /-- R207, R208: the fragments before are in `DEV_SHADOW`, their `DEV_WMASK` bits set. -/
  buffered : ∀ m j, ((transferFrames s.par ws).take (m + 1)).flatten.length ≤ k → fragmentStart s.par m ≤ j →
    j < fragmentStart s.par m + fragmentLength s.par m →
    s.devShadow[j]? = ws[j]? ∧ s.devWmask[j]? = some true

/-- A run that nothing has left the spec's meaning in: no device fault and no refusal (R10: both "err toward
unprovable"). -/
def State.Unblemished (s : State) : Prop := s.devFault = [] ∧ s.refused = []

end Sys2Proof.Machine
end

