-- ==== Sys2Proof/Certificates/Slice0/Obligations.lean ====
section
/-! DEFINITION. The statements for the provers, each formalising rules of spec/ (OBLIGATIONS.json names them). -/

open Sys2Proof Sys2Proof.Machine

/-! ## Reset -/

/-- R280: block reset's table, for every instance; reset is the state of `Config.params`. -/
def Obligations.BlockResetTable : Prop :=
  State.reset = State.resetOf Config.params ∧
  ∀ p : Params,
    (State.resetOf p).par = p ∧
    (State.resetOf p).bank.length = p.N ∧
    (∀ i, i < p.N → (State.resetOf p).bank[i]? = some ⟨0x3F800000, 0x00000000, 0x00000000, 0x00000000, 0x00000000⟩) ∧
    (State.resetOf p).respSnap = none ∧ (State.resetOf p).respPub = none ∧
    (State.resetOf p).link = .closed ∧ (State.resetOf p).h2d = [] ∧ (State.resetOf p).d2h = [] ∧
    (State.resetOf p).telem = [] ∧ (State.resetOf p).diag = [] ∧ (State.resetOf p).refused = [] ∧
    (State.resetOf p).respTimer = .firstTickPending ∧ (State.resetOf p).pollTimer = .firstTickPending

/-- R281: device reset's table; the draws of `DEV_SHADOW`, and of `DEV_ACTIVE` where `DEV_RESET_BANK` is not given, are
words of which nothing is claimed. -/
def Obligations.DeviceResetTable : Prop :=
  ∀ p : Params,
    (∀ l, p.devResetBank = some l → l.length = p.NF → (State.resetOf p).devActive = l) ∧
    (State.resetOf p).devActive.length = p.NF ∧ (State.resetOf p).devShadow.length = p.NF ∧
    (∀ j, j < p.NF → (State.resetOf p).devWmask[j]? = some false) ∧
    (State.resetOf p).devRx = .idle ∧ (State.resetOf p).devMode = .normal ∧
    (∀ i, i < p.N → (State.resetOf p).devDly[i]? = some ⟨.zero, .zero, .zero, .zero⟩) ∧
    (State.resetOf p).devFault = []

/-- R281: "a block reset does not reset the device", nor a device reset the block; each sets its own table's state
(R280, R281). That a device reset empties `DEV_FAULT`, which R258 never shortens, is the model's reading (log entry 24,
DEDUCED), and so is that a block reset empties `H2D` and unsets `REFUSED` beside a receiver left where it stood
(log entry 25, DEDUCED). -/
def Obligations.ResetsAreIndependent : Prop :=
  ∀ (s : State) (es : List Event),
    (s.inbox = .blockReset :: es → ∃ t, step s = .next t ∧
      t.devActive = s.devActive ∧ t.devShadow = s.devShadow ∧ t.devWmask = s.devWmask ∧ t.devRx = s.devRx ∧
      t.devMode = s.devMode ∧ t.devDly = s.devDly ∧ t.devFault = s.devFault ∧ t.par = s.par ∧
      t.bank = (State.resetOf s.par).bank ∧ t.link = .closed ∧ t.h2d = [] ∧ t.d2h = [] ∧ t.telem = [] ∧ t.diag = [] ∧
      t.refused = [] ∧ t.respSnap = none ∧ t.respPub = none ∧
      t.respTimer = .firstTickPending ∧ t.pollTimer = .firstTickPending) ∧
    (s.inbox = .deviceReset :: es → ∃ t, step s = .next t ∧
      t.bank = s.bank ∧ t.respSnap = s.respSnap ∧ t.respPub = s.respPub ∧ t.link = s.link ∧ t.h2d = s.h2d ∧
      t.d2h = s.d2h ∧ t.telem = s.telem ∧ t.diag = s.diag ∧ t.refused = s.refused ∧ t.respTimer = s.respTimer ∧
      t.pollTimer = s.pollTimer ∧ t.par = s.par ∧
      (∀ l, s.par.devResetBank = some l → l.length = s.par.NF → t.devActive = l) ∧
      t.devActive.length = s.par.NF ∧ t.devShadow.length = s.par.NF ∧
      t.devRx = .idle ∧ t.devMode = .normal ∧ t.devFault = [] ∧ t.devWmask = List.replicate s.par.NF false ∧
      t.devDly = List.replicate s.par.N ⟨.zero, .zero, .zero, .zero⟩)

/-- The invariant holds after reset, for every instance with legal parameters; the instance at reset is one, has 4 or 8
sections (R6) and sends 10 floats a fragment (D9). -/
def Obligations.ResetMeetsInvariant : Prop :=
  (∀ p : Params, p.Valid → (State.resetOf p).Inv) ∧ State.reset.Inv ∧
    (State.reset.par.N = 4 ∨ State.reset.par.N = 8) ∧ State.reset.par.chunk = 10

/-! ## The bank -/

/-- R110: SECTION_COUNT answers `N` and writes nothing. -/
def Obligations.SectionCountAnswersN : Prop :=
  ∀ s : State, ∃ c : Byte,
    exec .sectionCount s = .next { s with resp := some ⟨.ok, .count c⟩ } ∧ (s.par.Valid → c.toNat = s.par.N)

/-- R111: GET_SECTION answers the stored words; an index `>= N` is IndexRangeError with its diagnostic. -/
def Obligations.GetSectionAnswersStoredWords : Prop :=
  ∀ (s : State) (idx : Byte),
    (∀ b, idx.toNat < s.par.N → s.bank[idx.toNat]? = some b →
      exec (.getSection idx) s = .next { s with resp := some ⟨.ok, .words [b.b0, b.b1, b.b2, b.a1, b.a2]⟩ }) ∧
    (s.par.N ≤ idx.toNat →
      exec (.getSection idx) s = .next { s with
        resp := some ⟨.indexRangeError, .none⟩
        diag := s.diag ++ [⟨0x02, .indexRangeError, .idx idx⟩] })

/-- R112: SET_SECTION writes the five words of one section, or reports IndexRangeError, then a wrong count, then the
lowest-numbered word whose exponent field is `0xFF`, the store unchanged. -/
def Obligations.SetSectionWritesOrRejects : Prop :=
  ∀ (s : State) (idx : Byte) (ws : List Word),
    (s.par.N ≤ idx.toNat →
      exec (.setSection idx ws) s = .next { s with
        resp := some ⟨.indexRangeError, .none⟩
        diag := s.diag ++ [⟨0x03, .indexRangeError, .idx idx⟩] }) ∧
    (idx.toNat < s.par.N → ws.length ≠ 5 →
      exec (.setSection idx ws) s = .next { s with
        resp := some ⟨.validationError, .none⟩
        diag := s.diag ++ [⟨0x03, .validationError, .count ws.length⟩] }) ∧
    (∀ c w, idx.toNat < s.par.N → ws.length = 5 → ws[c]? = some w → w.extractLsb' 23 8 = 0xFF#8 →
      (∀ j v, j < c → ws[j]? = some v → v.extractLsb' 23 8 ≠ 0xFF#8) →
      exec (.setSection idx ws) s = .next { s with
        resp := some ⟨.validationError, .none⟩
        diag := s.diag ++ [⟨0x03, .validationError, .word c⟩] }) ∧
    (∀ b : Biquad, idx.toNat < s.par.N → ws = [b.b0, b.b1, b.b2, b.a1, b.a2] →
      (∀ w ∈ ws, w.extractLsb' 23 8 ≠ 0xFF#8) →
      exec (.setSection idx ws) s = .next { s with
        resp := some ⟨.ok, .none⟩
        bank := s.bank.set idx.toNat b })

/-- R113: a section reads back bit for bit after any operations that are no SET_SECTION of it; and no other operation
changes a section. -/
def Obligations.SectionReadsBackAcrossOperations : Prop :=
  (∀ (i : Instr) (s t : State), (∀ idx ws, i ≠ .setSection idx ws) → exec i s = .next t → t.bank = s.bank) ∧
  ∀ (s t u : State) (idx : Byte) (b : Biquad) (is : List Instr),
    s.bank.length = s.par.N → idx.toNat < s.par.N → (∀ w ∈ b.words, w.extractLsb' 23 8 ≠ 0xFF#8) →
    exec (.setSection idx b.words) s = .next t →
    (∀ i ∈ is, ∀ ws, i ≠ .setSection idx ws) → execAll is t = .next u →
    exec (.getSection idx) u = .next { u with resp := some ⟨.ok, .words b.words⟩ }

/-- R22, R113: a step that changes the bank carries out a SET_SECTION or is a block reset. -/
def Obligations.OnlySetSectionWritesTheBank : Prop :=
  ∀ s t : State, step s = .next t → t.bank ≠ s.bank →
    s.nextEvent = .blockReset ∨
      ∃ bytes draw idx ws rest, s.nextEvent = .command bytes draw ∧ decodeCommand bytes = .ok (.setSection idx ws) rest

/-! ## The sign convention -/

/-- R131, R132: TO_DEVICE flips the sign bits of `a1` and `a2`, TO_PREVIEW is the identity, and both write no state. -/
def Obligations.SignTransformsArePure : Prop :=
  ∀ (s : State) (b : Biquad),
    exec (.toDevice b) s = .next { s with
      resp := some ⟨.ok, .words [b.b0, b.b1, b.b2, b.a1 ^^^ 0x80000000#32, b.a2 ^^^ 0x80000000#32]⟩ } ∧
    exec (.toPreview b) s = .next { s with resp := some ⟨.ok, .words [b.b0, b.b1, b.b2, b.a1, b.a2]⟩ }

/-- R133: TO_DEVICE is an involution, and `k` applications give the section back when `k` is even. -/
def Obligations.ToDeviceIsInvolution : Prop :=
  ∀ (b : Biquad) (k : Nat),
    b.toDevice.toDevice = b ∧ Biquad.toDevice^[k] b = if k % 2 = 0 then b else b.toDevice

/-! ## The preview -/

/-- R150: TICK_RESPONSE does nothing while the snapshot equals the flattened bank bit for bit, and else publishes the
response of the bank and takes the snapshot. What it publishes is `min(400, FS_PREVIEW div 2)` points with phases in
`(-180, 180]`, whatever the arithmetic (R27, R154). The timer it leaves is `StepRunsTheDecodedOperation`'s. -/
def Obligations.TickResponseComputesWhenDirty : Prop :=
  (∀ (p : Params) (ws : List Word), (response p ws).length = min 400 (p.fsPreview / 2) ∧
    ∀ r ∈ response p ws, -180 < phaseOf r.ph ∧ phaseOf r.ph ≤ 180) ∧
  ∀ (s : State) (snap : List Word), snap = s.bank.flatMap (fun b => [b.b0, b.b1, b.b2, b.a1, b.a2]) →
    (s.respSnap = some snap → ∃ t : State, exec .tickResponse s = .next t ∧
      t = { s with resp := some ⟨.ok, .none⟩, respTimer := t.respTimer }) ∧
    (s.respSnap ≠ some snap → ∃ t : State, exec .tickResponse s = .next t ∧
      t = { s with
        resp := some ⟨.ok, .none⟩
        respPub := some (response s.par snap)
        respSnap := some snap
        respTimer := t.respTimer })

/-- R141, R144, R146: the model's exact test for a zero of a trinomial at a grid point is the zero of the complex
expression (the test is the model's inference, log entry 21). -/
def Obligations.VanishingTestIsExact : Prop :=
  ∀ (c0 c1 c2 : ℚ) (k m : Nat), k < m → (vanishesAt c0 c1 c2 k m = true ↔ trinomial c0 c1 c2 (gridAngle k m) = 0)

/-- R143, R149: in exact arithmetic what TICK_RESPONSE publishes of a bank names the numbers of `RESPONSE(bank)`, point by
point. -/
def Obligations.ExactResponseIsTheReference : Prop :=
  ∀ (p : Params) (bank : List Biquad), p.respArith = .exact →
    (response p (flatten bank)).map pointOf = referenceResponse p bank

/-- R151: the identity bank's transfer function is 1 and its published response all zero, the failure response's own
points. -/
def Obligations.IdentityBankIsFlat : Prop :=
  ∀ (p : Params) (n : Nat),
    (∀ ω : ℝ, cascadeTransfer ((List.replicate n Biquad.identity).map Biquad.real) ω = 1) ∧
    referenceResponse p (List.replicate n Biquad.identity) = List.replicate p.P (some 0, 0) ∧
    (p.respArith = .exact → response p (flatten (List.replicate n Biquad.identity)) = allZeroResponse p)

/-- R152: magnitudes in dB add, and phases add modulo 360 degrees into `(-180, 180]`, where no section's transfer
function vanishes. -/
def Obligations.MagnitudesAndPhasesAdd : Prop :=
  ∀ (ss : List RealBiquad) (ω : ℝ), (∀ s ∈ ss, denominator s ω ≠ 0 ∧ transfer s ω ≠ 0) →
    magnitudeDb (cascadeTransfer ss ω) = (ss.map fun s => magnitudeDb (transfer s ω)).sum ∧
    (∃ n : ℤ, phaseDegrees (cascadeTransfer ss ω) = (ss.map fun s => phaseDegrees (transfer s ω)).sum + 360 * n) ∧
    -180 < phaseDegrees (cascadeTransfer ss ω) ∧ phaseDegrees (cascadeTransfer ss ω) ≤ 180

/-- R153: a flat section whose denominator does not vanish contributes nothing to the cascade. -/
def Obligations.FlatSectionContributesNothing : Prop :=
  ∀ (ss rs : List RealBiquad) (a1 a2 : ℚ) (ω : ℝ), denominator ⟨1, a1, a2, a1, a2⟩ ω ≠ 0 →
    transfer ⟨1, a1, a2, a1, a2⟩ ω = 1 ∧
    cascadeTransfer (ss ++ ⟨1, a1, a2, a1, a2⟩ :: rs) ω = cascadeTransfer (ss ++ rs) ω

/-! ## The packetizer -/

/-- R63, R64: a word's bytes are its bytes from the least significant on, and rebuild it; so do the bytes of any words in a
row. -/
def Obligations.FloatBytesRoundTrip : Prop :=
  (∀ w : Word, (le32 w).map BitVec.toNat =
    [w.toNat % 256, w.toNat / 256 % 256, w.toNat / 65536 % 256, w.toNat / 16777216]) ∧
  ∀ ws : List Word, wordsOf (bytesOf ws) = ws

/-- R61, R170: a bank of `N` sections is `5·N` words, and word `j` sent is coefficient `j mod 5` of section `j div 5`, the last two with the sign flipped. -/
def Obligations.DeviceWordsAtFlatIndex : Prop :=
  (∀ bank : List Biquad, (flatten bank).length = 5 * bank.length ∧ (devWords bank).length = 5 * bank.length) ∧
  ∀ (bank : List Biquad) (i c : Nat) (b : Biquad) (w : Word), bank[i]? = some b →
    [b.b0, b.b1, b.b2, b.a1, b.a2][c]? = some w →
    (flatten bank)[5 * i + c]? = some w ∧
    (devWords bank)[5 * i + c]? = some (if c < 3 then w else w ^^^ 0x80000000#32)

/-- R175, with the frames of R174 and R176 written out and back to back (R177): UPLOAD reports a closed link, and else
appends the whole transfer, or its first `n` bytes where the write fails after them. -/
def Obligations.UploadAppendsTheTransfer : Prop :=
  ∀ (s : State) (port : Port) (F : Nat) (frame : Nat → List Byte),
    F = (s.par.NF + s.par.chunk - 1) / s.par.chunk →
    (∀ k, frame k =
      [BitVec.ofNat 8 (min s.par.chunk (s.par.NF - k * s.par.chunk)), BitVec.ofNat 8 (k * s.par.chunk)] ++
        (((devWords s.bank).drop (k * s.par.chunk)).take (min s.par.chunk (s.par.NF - k * s.par.chunk))).flatMap le32 ++
        [if k + 1 = F then s.par.termFinal else s.par.termMore]) →
    (s.link = .closed → exec .upload s = .next { s with
      resp := some ⟨.linkUnavailableError, .none⟩
      diag := s.diag ++ [⟨0x10, .linkUnavailableError, .none⟩] }) ∧
    (s.link = .opened port → (∀ n, s.writeDraw = some n → ((List.range F).flatMap frame).length ≤ n) →
      exec .upload s = .next { s with
        h2d := s.h2d ++ (List.range F).flatMap frame
        resp := some ⟨.ok, .none⟩ }) ∧
    (∀ n, s.link = .opened port → s.writeDraw = some n → n < ((List.range F).flatMap frame).length →
      ∃ t : State, exec .upload s = .next t ∧ t = { s with
        h2d := s.h2d ++ ((List.range F).flatMap frame).take n
        resp := some ⟨.transmissionError, .none⟩
        diag := s.diag ++ [⟨0x10, .transmissionError, .delivered n⟩]
        devFault := t.devFault })

/-- R184, R213: an UPLOAD whose write fails after `n` bytes leaves exactly those bytes, is TransmissionError with the link
left open, and records `DEV_DESYNC` exactly when byte `n` is no boundary between two frames. -/
def Obligations.FailedUploadLeavesItsPrefix : Prop :=
  ∀ (s : State) (port : Port) (n : Nat) (frames : List (List Byte)),
    frames = transferFrames s.par (devWords s.bank) →
    s.link = .opened port → s.writeDraw = some n → n < frames.flatten.length →
    ∃ t : State, exec .upload s = .next t ∧
      t = { s with
        h2d := s.h2d ++ frames.flatten.take n
        resp := some ⟨.transmissionError, .none⟩
        diag := s.diag ++ [⟨0x10, .transmissionError, .delivered n⟩]
        devFault := t.devFault } ∧
      ((∃ k, n = (frames.take k).flatten.length) → t.devFault = s.devFault) ∧
      ((∀ k, n ≠ (frames.take k).flatten.length) → t.devFault = s.devFault.insert .desync)

/-- R177: a transfer is `4·NF + 3·F` bytes. -/
def Obligations.TransferLengthFormula : Prop :=
  ∀ (p : Params) (ws : List Word), p.Valid → ws.length = p.NF →
    (transferFrames p ws).flatten.length = 4 * p.NF + 3 * ((p.NF + p.chunk - 1) / p.chunk)

/-- R179: the fragments' ranges are disjoint and cover `[0, NF)`, their counts are in `1..CHUNK`, their starts fit a byte,
and the last one alone carries `TERM_FINAL`. -/
def Obligations.FragmentsPartitionTheBank : Prop :=
  ∀ p : Params, p.Valid →
    (∀ j, j < p.NF → ∃! k, k < fragmentCount p ∧ fragmentStart p k ≤ j ∧ j < fragmentStart p k + fragmentLength p k) ∧
    (∀ k, k < fragmentCount p →
      1 ≤ fragmentLength p k ∧ fragmentLength p k ≤ p.chunk ∧ fragmentLength p k ≤ 15 ∧
      fragmentStart p k + fragmentLength p k ≤ p.NF ∧ fragmentStart p k ≤ 255 ∧
      (fragmentTerm p k = p.termFinal ↔ k + 1 = fragmentCount p))

/-- R180: the device's decoder accepts every frame UPLOAD writes as the legal frame of its fragment. -/
def Obligations.UploadedFramesAreLegal : Prop :=
  ∀ (p : Params) (ws : List Word) (k : Nat) (rest : List Byte), p.Valid → ws.length = p.NF → k < fragmentCount p →
    ∃ i, decodeLink p (fragmentBytes p ws k ++ rest) = .ok i rest ∧ i.wellFormed p = true ∧
      i = if k + 1 = fragmentCount p
        then .fragFinal (BitVec.ofNat 8 (fragmentStart p k)) (fragmentData p ws k)
        else .fragMore (BitVec.ofNat 8 (fragmentStart p k)) (fragmentData p ws k)

/-- R182: placing the floats of every frame at its start index rebuilds the words sent, whatever stood there before; and
TO_DEVICE of each rebuilt section is the bank. -/
def Obligations.ReassemblyIsBitExact : Prop :=
  ∀ (p : Params) (bank : List Biquad) (init : List Word), p.Valid → bank.length = p.N → init.length = p.NF →
    ∀ rebuilt : List Word,
      rebuilt = (transferFrames p (devWords bank)).foldl
        (fun l f => putFrom l (f.getD 1 0).toNat (wordsOf ((f.drop 2).take (4 * (f.getD 0 0).toNat)))) init →
      rebuilt = devWords bank ∧ (sectionsOf rebuilt).map Biquad.toDevice = bank

/-- R185: SEND_AUTOEQ is refused while `AUTOEQ_SEQ` is unset, reports a closed link, and else appends the command's bytes;
a failing write leaves its prefix, and one inside the command records `DEV_DESYNC` (R213). That the refusal is a next
state that answers nothing is the model's reading and its own field (log entries 10 and 15). -/
def Obligations.SendAutoeqAppendsTheCommand : Prop :=
  ∀ s : State,
    (s.par.autoeqSeq = none → exec .sendAutoeq s = .next { s with
      resp := none
      refused := s.refused.insert .autoeqUnspecified }) ∧
    (∀ seq, s.par.autoeqSeq = some seq → s.link = .closed → exec .sendAutoeq s = .next { s with
      resp := some ⟨.linkUnavailableError, .none⟩
      diag := s.diag ++ [⟨0x11, .linkUnavailableError, .none⟩] }) ∧
    (∀ seq port, s.par.autoeqSeq = some seq → s.link = .opened port →
      (∀ n, s.writeDraw = some n → seq.length ≤ n) →
      exec .sendAutoeq s = .next { s with
        h2d := s.h2d ++ seq
        resp := some ⟨.ok, .none⟩ }) ∧
    (∀ seq port n, s.par.autoeqSeq = some seq → s.link = .opened port → s.writeDraw = some n → n < seq.length →
      exec .sendAutoeq s = .next { s with
        h2d := s.h2d ++ seq.take n
        resp := some ⟨.transmissionError, .none⟩
        diag := s.diag ++ [⟨0x11, .transmissionError, .delivered n⟩]
        devFault := if n = 0 then s.devFault else s.devFault.insert .desync })

/-! ## The link port -/

/-- R230: LINK_OPEN releases an open link (its unread telemetry discarded), then opens a valid port or reports
LinkUnavailableError with the link closed. -/
def Obligations.LinkOpenReleasesThenOpens : Prop :=
  ∀ (s : State) (port : Port) (left : List Byte), left = (if s.link = .closed then s.d2h else []) →
    (s.par.portValid port = true → exec (.linkOpen port) s = .next { s with
      link := .opened port
      d2h := left
      resp := some ⟨.ok, .none⟩ }) ∧
    (s.par.portValid port = false → exec (.linkOpen port) s = .next { s with
      link := .closed
      d2h := left
      resp := some ⟨.linkUnavailableError, .none⟩
      diag := s.diag ++ [⟨0x20, .linkUnavailableError, .port port⟩] })

/-- R231: LINK_CLOSE closes the link and discards unread telemetry; bytes in flight to the device stay. -/
def Obligations.LinkCloseDiscardsTelemetry : Prop :=
  ∀ s : State, exec .linkClose s = .next { s with
    link := .closed
    d2h := []
    resp := some ⟨.ok, .none⟩ }

/-- R237: READ_AVAILABLE answers all that has arrived and empties the queue, or LinkUnavailableError. -/
def Obligations.ReadAvailableDrainsTheQueue : Prop :=
  ∀ s : State,
    (∀ port, s.link = .opened port → exec .readAvailable s = .next { s with
      d2h := []
      resp := some ⟨.ok, .bytes s.d2h⟩ }) ∧
    (s.link = .closed → exec .readAvailable s = .next { s with
      resp := some ⟨.linkUnavailableError, .none⟩
      diag := s.diag ++ [⟨0x22, .linkUnavailableError, .none⟩] })

/-- R238: TICK_POLL moves what has arrived to the telemetry sink while a link is open, and does nothing while none is.
The timer it leaves is `StepRunsTheDecodedOperation`'s. -/
def Obligations.TickPollFillsTheSink : Prop :=
  ∀ s : State,
    (∀ port, s.link = .opened port → ∃ t : State, exec .tickPoll s = .next t ∧
      t = { s with
        telem := s.telem ++ s.d2h
        d2h := []
        resp := some ⟨.ok, .none⟩
        pollTimer := t.pollTimer }) ∧
    (s.link = .closed → ∃ t : State, exec .tickPoll s = .next t ∧
      t = { s with resp := some ⟨.ok, .none⟩, pollTimer := t.pollTimer })

/-- R235: a telemetry byte is queued while a link is open and lost while none is. -/
def Obligations.TelemetryByteIsQueuedOrLost : Prop :=
  ∀ (s : State) (b : Byte) (es : List Event), s.inbox = .devTx b :: es →
    (∀ port, s.link = .opened port → step s = .next { s with inbox := es, pos := s.pos + 1, d2h := s.d2h ++ [b] }) ∧
    (s.link = .closed → step s = .next { s with inbox := es, pos := s.pos + 1 })

/-! ## The device -/

/-- R207, R208: FRAG_MORE stores the frame's words at `si + m`, sets their mask bits, and changes nothing else but the parse
state. -/
def Obligations.FragMoreBuffersItsWords : Prop :=
  ∀ (s : State) (si : Byte) (data : List Word), frameLegal s.par si data = true →
    s.devShadow.length = s.par.NF → s.devWmask.length = s.par.NF →
    ∃ t : State, exec (.fragMore si data) s = .next t ∧
      t = { s with devShadow := t.devShadow, devWmask := t.devWmask, devRx := .idle } ∧
      ∀ j, j < s.par.NF →
        t.devShadow[j]? = (if si.toNat ≤ j ∧ j < si.toNat + data.length then data[j - si.toNat]? else s.devShadow[j]?) ∧
        t.devWmask[j]? = (if si.toNat ≤ j ∧ j < si.toNat + data.length then some true else s.devWmask[j]?)

/-- R209, R210: FRAG_FINAL buffers its frame and commits in one step: every word written since the last commit becomes
active (of the others nothing is claimed), the mask is cleared, and the two parameters' effects follow. -/
def Obligations.FragFinalCommitsTheBuffer : Prop :=
  ∀ (s : State) (si : Byte) (data : List Word), frameLegal s.par si data = true →
    s.devShadow.length = s.par.NF → s.devWmask.length = s.par.NF →
    ∃ t : State, exec (.fragFinal si data) s = .next t ∧
      t = { s with
        devActive := t.devActive
        devShadow := t.devShadow
        devWmask := List.replicate s.par.NF false
        devDly := if s.par.commitClearsState then List.replicate s.par.N ⟨.zero, .zero, .zero, .zero⟩ else s.devDly
        devMode := if s.par.commitExitsAutoeq then .normal else s.devMode
        devRx := .idle
        draws := t.draws } ∧
      t.devActive.length = s.par.NF ∧
      ∀ j, j < s.par.NF →
        t.devShadow[j]? = (if si.toNat ≤ j ∧ j < si.toNat + data.length then data[j - si.toNat]? else s.devShadow[j]?) ∧
        (si.toNat ≤ j → j < si.toNat + data.length → t.devActive[j]? = data[j - si.toNat]?) ∧
        (s.devWmask[j]? = some true → t.devActive[j]? = t.devShadow[j]?)

/-- R211: the complete command puts the device in auto-EQ mode and changes neither of its banks nor the mask. -/
def Obligations.AutoeqCommandEntersTheMode : Prop :=
  ∀ s : State, exec .autoeqCmd s = .next { s with devMode := .autoeq, devRx := .idle }

/-- R214, R215: SAMPLE is refused in auto-EQ mode; in normal mode it computes one value a section, in cascade order, from
the active words and the delays, in `DEV_ARITH`, writes each section's delays, and gives the last value; in exact
arithmetic each value is R214's sum of products, whatever reals the inputs and delays are. The model's own here: a refusal
gives no output (log entries 10 and 15), numbers are plain data (log entry 16, PRESUMED), and another `DEV_ARITH` is a
free function of a section's words and signal values (log entry 18). -/
def Obligations.SampleFollowsTheRecurrence : Prop :=
  ∀ (s : State) (x : Number),
    (s.devMode = .autoeq →
      exec (.sample x) s = .next { s with sampleOut := none, refused := s.refused.insert .autoeqFilter }) ∧
    (s.devMode = .normal → s.devActive.length = 5 * s.par.N → s.devDly.length = s.par.N →
      ∃ (t : State) (u : Nat → Number), exec (.sample x) s = .next t ∧
        t = { s with devDly := t.devDly, sampleOut := some (u s.par.N) } ∧
        u 0 = x ∧ t.devDly.length = s.par.N ∧
        ∀ i b0 b1 b2 d1 d2 d, s.devActive[5 * i]? = some b0 → s.devActive[5 * i + 1]? = some b1 →
          s.devActive[5 * i + 2]? = some b2 → s.devActive[5 * i + 3]? = some d1 → s.devActive[5 * i + 4]? = some d2 →
          s.devDly[i]? = some d →
          u (i + 1) = s.par.devArith.arith.mac ⟨b0, b1, b2, d1, d2⟩ ⟨u i, d.x1, d.x2, d.y1, d.y2⟩ ∧
          t.devDly[i]? = some ⟨u i, d.x1, u (i + 1), d.y1⟩ ∧
          (s.par.devArith = .exact → ∀ ρ : Nat → ℝ, (u (i + 1)).real ρ =
            val b0 * (u i).real ρ + val b1 * d.x1.real ρ + val b2 * d.x2.real ρ + val d1 * d.y1.real ρ +
              val d2 * d.y2.real ρ))

/-- R35, R39, R209, R263: a step that changes the active bank, or leaves auto-EQ mode, is a device reset or consumes the
terminator of a final fragment. -/
def Obligations.OnlyACommitChangesTheActiveBank : Prop :=
  ∀ s t : State, step s = .next t →
    (t.devActive ≠ s.devActive ∨ (s.devMode = .autoeq ∧ t.devMode = .normal)) →
    s.nextEvent = .deviceReset ∨
      (s.nextEvent = .devRx ∧ DeviceFault.desync ∉ s.devFault ∧ s.h2d.head? = some s.par.termFinal ∧
        ∃ pc si d, s.devRx = .awaitTerm pc si d)

/-- R135: the device recurrence of TO_DEVICE of a bank of finite words is the bank's host recurrence, output by output,
for every sequence of real inputs. -/
def Obligations.ConventionsAreEquivalent : Prop :=
  ∀ (bank : List Biquad) (x : Nat → ℝ) (n : Nat), (∀ b ∈ bank, b.finite = true) →
    deviceCascade (bank.map Biquad.toDevice) x n = hostCascade bank x n

/-- R216: with the device holding a bank's device words, zero delays and exact arithmetic, the sample steps give the
bank's host recurrence, sample for sample, whatever real numbers the inputs are (how reals are written as data is the
model's, log entry 16). -/
def Obligations.SamplesAgreeWithThePreviewedBank : Prop :=
  ∀ (s : State) (bank : List Biquad) (xs : List Number) (n : Nat) (ρ : Nat → ℝ), (∀ b ∈ bank, b.finite = true) →
    s.devActive = devWords bank → s.devDly = List.replicate bank.length ⟨.zero, .zero, .zero, .zero⟩ →
    s.devMode = .normal → s.par.devArith = .exact → n < xs.length → s.inbox = (xs.take (n + 1)).map Event.sample →
    ∃ (t : State) (y : Number), Sys2Proof.core.run (n + 1) s = .next t ∧ t.sampleOut = some y ∧
      y.real ρ = hostCascade bank (fun k => (xs.getD k .zero).real ρ) n

/-! ## The receiver -/

/-- R200: DEV_RX has no step after `DEV_DESYNC` nor on an empty queue: its event passes and nothing changes. -/
def Obligations.ReceiverWaitsOrIsStuck : Prop :=
  ∀ (s : State) (es : List Event), s.inbox = .devRx :: es → (s.h2d = [] ∨ DeviceFault.desync ∈ s.devFault) →
    step s = .next { s with inbox := es, pos := s.pos + 1 }

/-- R201, R202: a byte in `IDLE`. -/
def Obligations.ReceiverIdleByte : Prop :=
  ∀ (s r : State) (es : List Event) (b : Byte) (rest : List Byte), s.inbox = .devRx :: es → s.devFault = [] →
    s.h2d = b :: rest → s.devRx = .idle → r = { s with inbox := es, pos := s.pos + 1, h2d := rest } →
    (1 ≤ b.toNat ∧ b.toNat ≤ 15 → step s = .next { r with devRx := .gotPc b.toNat }) ∧
    (¬(1 ≤ b.toNat ∧ b.toNat ≤ 15) →
      (s.par.autoeqSeq = some [b] → step s = .next { r with devMode := .autoeq, devRx := .idle }) ∧
      (∀ c cs, s.par.autoeqSeq = some (b :: c :: cs) → step s = .next { r with devRx := .seq 1 }) ∧
      ((∀ cs, s.par.autoeqSeq ≠ some (b :: cs)) → step s = .next { r with devFault := [.desync] }))

/-- R203, R204, R205: the start index is checked against the bank's end alone, and data bytes are collected as they
come. -/
def Obligations.ReceiverStartIndexAndData : Prop :=
  ∀ (s r : State) (es : List Event) (b : Byte) (rest : List Byte), s.inbox = .devRx :: es → s.devFault = [] →
    s.h2d = b :: rest → r = { s with inbox := es, pos := s.pos + 1, h2d := rest } →
    (∀ pc, s.devRx = .gotPc pc →
      (b.toNat + pc ≤ s.par.NF → step s = .next { r with devRx := .data pc b [] }) ∧
      (s.par.NF < b.toNat + pc → step s = .next { r with devFault := [.desync] })) ∧
    (∀ pc si d, s.devRx = .data pc si d →
      step s = .next { r with
        devRx := if d.length + 1 = 4 * pc then .awaitTerm pc si (d ++ [b]) else .data pc si (d ++ [b]) })

/-- R206, R211: a terminator that is neither parameter loses the framing with nothing buffered, and so does a byte that
breaks off the auto-EQ command; a byte that continues it is matched. -/
def Obligations.ReceiverTerminatorAndSequence : Prop :=
  ∀ (s r : State) (es : List Event) (b : Byte) (rest : List Byte), s.inbox = .devRx :: es → s.devFault = [] →
    s.h2d = b :: rest → r = { s with inbox := es, pos := s.pos + 1, h2d := rest } →
    (∀ pc si d, s.devRx = .awaitTerm pc si d →
      (b = s.par.termMore → step s = exec (.fragMore si (wordsOf d)) r) ∧
      (b ≠ s.par.termMore → b = s.par.termFinal → step s = exec (.fragFinal si (wordsOf d)) r) ∧
      (b ≠ s.par.termMore → b ≠ s.par.termFinal → step s = .next { r with devFault := [.desync] })) ∧
    (∀ m q, s.devRx = .seq m → s.par.autoeqSeq = some q →
      (q[m]? = some b → m + 1 < q.length → step s = .next { r with devRx := .seq (m + 1) }) ∧
      (q[m]? = some b → m + 1 = q.length → step s = .next { r with devMode := .autoeq, devRx := .idle }) ∧
      (q[m]? ≠ some b → step s = .next { r with devFault := [.desync] }))

/-- R200 to R211: from `IDLE`, the receiver run over the bytes of any well-formed link message carries out that message
and nothing else, taking exactly its bytes. -/
def Obligations.ReceiverRunsTheEncodedMessage : Prop :=
  ∀ (s : State) (i : Instr) (bs rest : List Byte) (es : List Event), s.par.Valid → i.wellFormed s.par = true →
    i.channel = .link → encode s.par i = some bs → s.devFault = [] → s.devRx = .idle → s.h2d = bs ++ rest →
    s.inbox = List.replicate bs.length .devRx ++ es →
    Sys2Proof.core.run bs.length s = exec i { s with h2d := rest, inbox := es, pos := s.pos + bs.length }

/-- R212: the receiver run over exactly the bytes of one UPLOAD leaves the device with the bank's device words active, the
mask clear, and the receiver in `IDLE`; before the last of them the active bank is as it was. -/
def Obligations.CompleteTransferCommitsTheBank : Prop :=
  ∀ (s : State) (bank : List Biquad) (bs : List Byte), s.Inv → bank.length = s.par.N →
    bs = (transferFrames s.par (devWords bank)).flatten → s.devFault = [] → s.devRx = .idle → s.h2d = bs →
    s.inbox = List.replicate bs.length .devRx →
    (∃ t : State, Sys2Proof.core.run bs.length s = .next t ∧ t.devActive = devWords bank ∧
      t.devWmask = List.replicate s.par.NF false ∧ t.devRx = .idle ∧ t.devFault = [] ∧ t.h2d = [] ∧
      t.bank = s.bank ∧ t.respPub = s.respPub) ∧
    ∀ k, k < bs.length → ∃ t : State, Sys2Proof.core.run k s = .next t ∧ t.devActive = s.devActive

/-- R67, R208, R212, R286: a device inside a transfer never uses a partially updated bank, whatever else happens between
its bytes. A step of DEV_RX moves one byte on with the active bank unchanged, or, on the last byte, makes the whole of the
transfer's words active; any other step but a reset leaves the active bank, and leaves the device inside the transfer at
the same byte unless a link write was cut inside a message. -/
def Obligations.NoPartialBankIsEverActive : Prop :=
  ∀ (s t : State) (ws : List Word) (k : Nat) (later : List Byte), s.Inv → ws.length = s.par.NF →
    s.MidTransfer ws k later → s.nextEvent ≠ .blockReset → s.nextEvent ≠ .deviceReset → step s = .next t →
    (s.nextEvent = .devRx →
      (k + 1 < (transferFrames s.par ws).flatten.length →
        t.MidTransfer ws (k + 1) later ∧ t.devActive = s.devActive ∧ t.devMode = s.devMode ∧ t.devDly = s.devDly) ∧
      (k + 1 = (transferFrames s.par ws).flatten.length →
        t.devActive = ws ∧ t.devWmask = List.replicate s.par.NF false ∧ t.devRx = .idle ∧ t.devFault = [] ∧
          t.h2d = later)) ∧
    (s.nextEvent ≠ .devRx → t.devActive = s.devActive ∧ (t.devFault = [] → ∃ more, t.MidTransfer ws k (later ++ more)))

/-- R180, R257: while no write fails and neither side is reset, no step loses the device's framing. -/
def Obligations.FramingIsNeverLostWithoutFailure : Prop :=
  ∀ s t : State, s.Inv → s.FramingIntact → s.nextEvent ≠ .blockReset → s.nextEvent ≠ .deviceReset →
    (∀ bytes draw, s.nextEvent = .command bytes draw → draw = none) → step s = .next t → t.FramingIntact

/-- R258: a recorded device fault stays, and DEV_RX consumes nothing after it, whatever happens but a device reset. -/
def Obligations.DesyncIsSticky : Prop :=
  ∀ s t : State, DeviceFault.desync ∈ s.devFault → s.nextEvent ≠ .deviceReset → step s = .next t →
    DeviceFault.desync ∈ t.devFault ∧ t.devActive = s.devActive ∧ t.devShadow = s.devShadow ∧
      t.devWmask = s.devWmask ∧ t.devRx = s.devRx ∧ t.devMode = s.devMode

/-! ## The whole machine -/

/-- The invariant is kept by every step, whatever the event. -/
def Obligations.EveryStepKeepsTheInvariant : Prop :=
  ∀ s t : State, s.Inv → step s = .next t → t.Inv

/-- R34, R71, R260: a step takes the next event; a transaction is decoded and carried out with its draw (that an event
carries one is log entry 8), a tick is its tick operation, a sample is SAMPLE. The model's own choices: bytes after a
transaction wait at the port as the next transaction with the same draw (log entry 14), and every TICK_RESPONSE and
TICK_POLL, brought by its timer or by the port, is a tick that reschedules its timer (log entry 23). -/
def Obligations.StepRunsTheDecodedOperation : Prop :=
  (∀ (s : State) (es : List Event),
    (∀ bytes draw i, s.inbox = .command bytes draw :: es → decodeCommand bytes = .ok i [] →
      step s = exec i { s with inbox := es, pos := s.pos + 1, writeDraw := draw }) ∧
    (∀ bytes draw i b rest, s.inbox = .command bytes draw :: es → decodeCommand bytes = .ok i (b :: rest) →
      step s = exec i { s with
        inbox := .command (b :: rest) draw :: es, pos := s.pos + 1, writeDraw := draw }) ∧
    (s.inbox = .timerResponse :: es → step s = exec .tickResponse { s with inbox := es, pos := s.pos + 1 }) ∧
    (s.inbox = .timerPoll :: es → step s = exec .tickPoll { s with inbox := es, pos := s.pos + 1 }) ∧
    (∀ x, s.inbox = .sample x :: es → step s = exec (.sample x) { s with inbox := es, pos := s.pos + 1 })) ∧
  (∀ s t : State, exec .tickResponse s = .next t → t.respTimer = .rescheduled) ∧
  ∀ s t : State, exec .tickPoll s = .next t → t.pollTimer = .rescheduled

/-- R250, R251: the seven codes; every command ends with one status but the refused SEND_AUTOEQ (log entry 10); and each
error kind comes only from the commands that raise it, with the detail recorded for it. -/
def Obligations.StatusCodesAndCauses : Prop :=
  (∀ r : Response, r.encode.head? = some (match r.status with
    | .ok => 0x00#8
    | .validationError => 0x01
    | .sourceUnreadableError => 0x02
    | .rowMismatchError => 0x03
    | .linkUnavailableError => 0x04
    | .transmissionError => 0x05
    | .indexRangeError => 0x06)) ∧
  ∀ (i : Instr) (op : Byte) (s t : State), i.opcode = some op → exec i s = .next t →
    (t.resp = none → i = .sendAutoeq ∧ s.par.autoeqSeq = none) ∧
    ∀ k r, t.resp = some ⟨k, r⟩ → match k with
      | .ok => t.diag = s.diag
      | .validationError => op = 0x03 ∧
          ((∃ n, t.diag = s.diag ++ [⟨op, k, .count n⟩]) ∨ ∃ c, t.diag = s.diag ++ [⟨op, k, .word c⟩])
      | .sourceUnreadableError => False
      | .rowMismatchError => False
      | .linkUnavailableError =>
          (∃ port, i = .linkOpen port ∧ t.diag = s.diag ++ [⟨op, k, .port port⟩]) ∨
            (op ∈ [0x10#8, 0x11#8, 0x22#8] ∧ t.diag = s.diag ++ [⟨op, k, .none⟩])
      | .transmissionError => op ∈ [0x10#8, 0x11#8] ∧ ∃ n, t.diag = s.diag ++ [⟨op, k, .delivered n⟩]
      | .indexRangeError => op ∈ [0x02#8, 0x03#8] ∧ ∃ idx, t.diag = s.diag ++ [⟨op, k, .idx idx⟩]

/-- R253, R254, R255: a command that ends with an error answers a kind and no results, appends one record of its opcode
and that kind, and changes no other state, but that a failed write leaves the bytes delivered (and R213's fault), and a
failed LINK_OPEN has released the link; a command that does not leaves `DIAG` as it was. -/
def Obligations.ErrorsAppendOneDiagnostic : Prop :=
  ∀ (i : Instr) (op : Byte) (s t : State), i.opcode = some op → exec i s = .next t →
    (t.resp = none → t.diag = s.diag) ∧
    (∀ r, t.resp = some ⟨.ok, r⟩ → t.diag = s.diag) ∧
    (∀ k r, t.resp = some ⟨k, r⟩ → k ≠ .ok →
      r = .none ∧ (∃ d, t.diag = s.diag ++ [⟨op, k, d⟩]) ∧ k ≠ .sourceUnreadableError ∧ k ≠ .rowMismatchError ∧
      op ∈ [0x02#8, 0x03#8, 0x10#8, 0x11#8, 0x20#8, 0x22#8] ∧
      t = { s with
        resp := t.resp, diag := t.diag, h2d := t.h2d, devFault := t.devFault, link := t.link, d2h := t.d2h } ∧
      (∃ out, t.h2d = s.h2d ++ out ∧ (k = .transmissionError → t.diag = s.diag ++ [⟨op, k, .delivered out.length⟩])) ∧
      (k ≠ .transmissionError → t.h2d = s.h2d ∧ t.devFault = s.devFault) ∧
      (op ≠ 0x20 → t.link = s.link ∧ t.d2h = s.d2h) ∧
      (op = 0x20 → t.link = .closed ∧ t.d2h = if s.link = .closed then s.d2h else []))

/-- R31, R33, R41, R259: `DIAG` and `TELEM` are append-only, and a refusal once marked stays marked, but for a block
reset (R280). -/
def Obligations.SinksOnlyGrow : Prop :=
  ∀ s t : State, s.nextEvent ≠ .blockReset → step s = .next t →
    s.diag <+: t.diag ∧ s.telem <+: t.telem ∧ ∀ n ∈ s.refused, n ∈ t.refused

/-- R25, R284: no step changes a parameter. -/
def Obligations.ParametersNeverChange : Prop :=
  ∀ s t : State, step s = .next t → t.par = s.par

/-- R265: "the host never reads device state": a command answers the same, and changes the host's state in the same way,
from two states that differ only in the device and in what is in flight. -/
def Obligations.HostNeverReadsTheDevice : Prop :=
  ∀ (i : Instr) (s s' t t' : State), i.channel = .command →
    s' = { s with
      h2d := s'.h2d, devActive := s'.devActive, devShadow := s'.devShadow, devWmask := s'.devWmask, devRx := s'.devRx
      devMode := s'.devMode, devDly := s'.devDly, devFault := s'.devFault, sampleOut := s'.sampleOut
      draws := s'.draws } →
    exec i s = .next t → exec i s' = .next t' →
    ∃ out, t.h2d = s.h2d ++ out ∧ t'.h2d = s'.h2d ++ out ∧
      t' = { t with
        h2d := t'.h2d, devActive := s'.devActive, devShadow := s'.devShadow, devWmask := s'.devWmask, devRx := s'.devRx
        devMode := s'.devMode, devDly := s'.devDly, devFault := t'.devFault, sampleOut := s'.sampleOut
        draws := s'.draws }

/-! ## Encoding -/

/-- R80 to R90: decoding the bytes of any well-formed operation on its own interface gives it back, with the bytes after
it. -/
def Obligations.DecodeOfEncodeIsIdentity : Prop :=
  ∀ (p : Params) (i : Instr) (bs rest : List Byte), p.Valid → i.wellFormed p = true → encode p i = some bs →
    decode p i.channel (bs ++ rest) = .ok i rest

/-- R84, R259: the reserved opcodes are those outside R82's table; such a command is refused `RESERVED_OPCODE` and changes
no other state. The model's own: the refusal is a next state that answers nothing (log entries 10 and 15), and the bytes
after the opcode in its event are dropped (log entry 14). -/
def Obligations.ReservedOpcodesAreRefused : Prop :=
  (∀ (op : Byte) (bs : List Byte), decodeCommand (op :: bs) = .reject (.reservedOpcode op) ↔
    op.toNat ∉ [0x01, 0x02, 0x03, 0x04, 0x05, 0x10, 0x11, 0x20, 0x21, 0x22, 0x30, 0x31]) ∧
  ∀ (s : State) (op : Byte) (bs : List Byte) (draw : Option Nat) (es : List Event),
    s.inbox = .command (op :: bs) draw :: es →
    op.toNat ∉ [0x01, 0x02, 0x03, 0x04, 0x05, 0x10, 0x11, 0x20, 0x21, 0x22, 0x30, 0x31] →
    step s = .next { s with
      inbox := es, pos := s.pos + 1, resp := none, refused := s.refused.insert .reservedOpcode }

/-- R82, R85: a few transactions and frames (95_test_vectors.md, P1, P2, RX-5, RX-6). The opcodes and frames are the
spec's; the command port's words most significant byte first and the length byte before the port name are the model's
layout (log entries 2 and 3), as is the length prefix of a result's bytes (log entry 34). -/
def Obligations.WordsOfTheSpecDecode : Prop :=
  decodeCommand [0x03, 0x00, 0x05, 0x3F, 0x00, 0x00, 0x00, 0x3F, 0x80, 0x00, 0x00, 0x3F, 0x00, 0x00, 0x00,
      0xBF, 0xE6, 0x66, 0x66, 0x3F, 0x51, 0xEB, 0x85] =
    .ok (.setSection 0 [0x3F000000, 0x3F800000, 0x3F000000, 0xBFE66666, 0x3F51EB85]) [] ∧
  decodeCommand [0x30] = .ok .tickResponse [] ∧
  decodeCommand [0x10] = .ok .upload [] ∧
  decodeCommand [0x20, 0x04, 0x43, 0x4F, 0x4D, 0x33] = .ok (.linkOpen [0x43, 0x4F, 0x4D, 0x33]) [] ∧
  decodeLink Params.testProfile [0x01, 0x13, 0x00, 0x00, 0x80, 0x3F, 0x01] = .ok (.fragFinal 19 [0x3F800000]) [] ∧
  decodeLink Params.testProfile [0x01, 0x03, 0x00, 0x00, 0x00, 0x40, 0x00] = .ok (.fragMore 3 [0x40000000]) [] ∧
  Response.encode ⟨.ok, .bytes [0x4F, 0x4B]⟩ = [0x00, 0x02, 0x4F, 0x4B] ∧
  Response.encode ⟨.ok, .count 4⟩ = [0x00, 0x04] ∧
  Response.encode ⟨.linkUnavailableError, .none⟩ = [0x04]

/-! ## Pseudo-operations and notation -/

/-- R96: BOOST_BASS leaves its section in every slot of the bank. -/
def Obligations.BoostBassFillsTheBank : Prop :=
  ∀ (s : State) (b : Biquad), s.Inv → b.finite = true →
    ∃ t : State, execAll ((Pseudo.boostBass b).expand s.par) s = .next t ∧ t.bank = List.replicate s.par.N b ∧
      t.diag = s.diag

/-- R94, R95: an import of rows that stand below `N` writes the sections of its five-number rows of finite words, leaves the
others, and appends nothing to the block's `DIAG`; an unreadable or cancelled source changes nothing. -/
def Obligations.ImportsApplyTheirGoodRows : Prop :=
  (∀ (s : State) (rows : List (List Word)), s.Inv → rows.length ≤ s.par.N →
    (∀ r ∈ rows, r.length = 5 → ∀ w ∈ r, wordFinite w = true) →
    ∃ t : State, execAll ((Pseudo.importBank (.read rows)).expand s.par) s = .next t ∧ t.diag = s.diag ∧
      t.bank.length = s.bank.length ∧
      ∀ i, i < s.par.N →
        (∀ b0 b1 b2 a1 a2, rows[i]? = some [b0, b1, b2, a1, a2] → t.bank[i]? = some ⟨b0, b1, b2, a1, a2⟩) ∧
        ((∀ r, rows[i]? = some r → r.length ≠ 5) → t.bank[i]? = s.bank[i]?)) ∧
  ∀ (s : State) (t : Byte),
    execAll ((Pseudo.importBank .unreadable).expand s.par) s = .next s ∧
    execAll ((Pseudo.importBank .cancelled).expand s.par) s = .next s ∧
    execAll ((Pseudo.importSection t .unreadable).expand s.par) s = .next s ∧
    execAll ((Pseudo.importSection t .cancelled).expand s.par) s = .next s ∧
    ∀ row, execAll ((Pseudo.importSection t (.read row)).expand s.par) s = exec (.setSection t row) s

/-- R8, R93: every finite word but the negative zero is the word its own number denotes (that 0 is written as the
positive zero is the model's choice, log entry 31). -/
def Obligations.DecimalOfAWordIsTheWord : Prop :=
  ∀ w : Word, wordFinite w = true → w ≠ 0x80000000#32 → wordOfRat (val w) = w
end

