-- ==== Sys2Proof/Laws/State.lean ====
section
/-! SUPPORT. What each named update of the state leaves in each field: one lemma a field and update, true by definition, so
that no later proof unfolds a record update. -/

namespace Sys2Proof.Machine

variable (s : State)

/-! ### answer -/

@[simp] theorem State.answer_par (r : Results) : (s.answer r).par = s.par := rfl
@[simp] theorem State.answer_bank (r : Results) : (s.answer r).bank = s.bank := rfl
@[simp] theorem State.answer_respSnap (r : Results) : (s.answer r).respSnap = s.respSnap := rfl
@[simp] theorem State.answer_respPub (r : Results) : (s.answer r).respPub = s.respPub := rfl
@[simp] theorem State.answer_link (r : Results) : (s.answer r).link = s.link := rfl
@[simp] theorem State.answer_h2d (r : Results) : (s.answer r).h2d = s.h2d := rfl
@[simp] theorem State.answer_d2h (r : Results) : (s.answer r).d2h = s.d2h := rfl
@[simp] theorem State.answer_telem (r : Results) : (s.answer r).telem = s.telem := rfl
@[simp] theorem State.answer_diag (r : Results) : (s.answer r).diag = s.diag := rfl
@[simp] theorem State.answer_refused (r : Results) : (s.answer r).refused = s.refused := rfl
@[simp] theorem State.answer_respTimer (r : Results) : (s.answer r).respTimer = s.respTimer := rfl
@[simp] theorem State.answer_pollTimer (r : Results) : (s.answer r).pollTimer = s.pollTimer := rfl
@[simp] theorem State.answer_devActive (r : Results) : (s.answer r).devActive = s.devActive := rfl
@[simp] theorem State.answer_devShadow (r : Results) : (s.answer r).devShadow = s.devShadow := rfl
@[simp] theorem State.answer_devWmask (r : Results) : (s.answer r).devWmask = s.devWmask := rfl
@[simp] theorem State.answer_devRx (r : Results) : (s.answer r).devRx = s.devRx := rfl
@[simp] theorem State.answer_devMode (r : Results) : (s.answer r).devMode = s.devMode := rfl
@[simp] theorem State.answer_devDly (r : Results) : (s.answer r).devDly = s.devDly := rfl
@[simp] theorem State.answer_devFault (r : Results) : (s.answer r).devFault = s.devFault := rfl
@[simp] theorem State.answer_resp (r : Results) : (s.answer r).resp = some ⟨.ok, r⟩ := rfl
@[simp] theorem State.answer_sampleOut (r : Results) : (s.answer r).sampleOut = s.sampleOut := rfl
@[simp] theorem State.answer_inbox (r : Results) : (s.answer r).inbox = s.inbox := rfl
@[simp] theorem State.answer_pos (r : Results) : (s.answer r).pos = s.pos := rfl
@[simp] theorem State.answer_draws (r : Results) : (s.answer r).draws = s.draws := rfl
@[simp] theorem State.answer_writeDraw (r : Results) : (s.answer r).writeDraw = s.writeDraw := rfl

/-! ### raise -/

@[simp] theorem State.raise_par (op : Byte) (k : Status) (d : Detail) : (s.raise op k d).par = s.par := rfl
@[simp] theorem State.raise_bank (op : Byte) (k : Status) (d : Detail) : (s.raise op k d).bank = s.bank := rfl
@[simp] theorem State.raise_respSnap (op : Byte) (k : Status) (d : Detail) : (s.raise op k d).respSnap = s.respSnap := rfl
@[simp] theorem State.raise_respPub (op : Byte) (k : Status) (d : Detail) : (s.raise op k d).respPub = s.respPub := rfl
@[simp] theorem State.raise_link (op : Byte) (k : Status) (d : Detail) : (s.raise op k d).link = s.link := rfl
@[simp] theorem State.raise_h2d (op : Byte) (k : Status) (d : Detail) : (s.raise op k d).h2d = s.h2d := rfl
@[simp] theorem State.raise_d2h (op : Byte) (k : Status) (d : Detail) : (s.raise op k d).d2h = s.d2h := rfl
@[simp] theorem State.raise_telem (op : Byte) (k : Status) (d : Detail) : (s.raise op k d).telem = s.telem := rfl
@[simp] theorem State.raise_diag (op : Byte) (k : Status) (d : Detail) : (s.raise op k d).diag = s.diag ++ [⟨op, k, d⟩] := rfl
@[simp] theorem State.raise_refused (op : Byte) (k : Status) (d : Detail) : (s.raise op k d).refused = s.refused := rfl
@[simp] theorem State.raise_respTimer (op : Byte) (k : Status) (d : Detail) : (s.raise op k d).respTimer = s.respTimer := rfl
@[simp] theorem State.raise_pollTimer (op : Byte) (k : Status) (d : Detail) : (s.raise op k d).pollTimer = s.pollTimer := rfl
@[simp] theorem State.raise_devActive (op : Byte) (k : Status) (d : Detail) : (s.raise op k d).devActive = s.devActive := rfl
@[simp] theorem State.raise_devShadow (op : Byte) (k : Status) (d : Detail) : (s.raise op k d).devShadow = s.devShadow := rfl
@[simp] theorem State.raise_devWmask (op : Byte) (k : Status) (d : Detail) : (s.raise op k d).devWmask = s.devWmask := rfl
@[simp] theorem State.raise_devRx (op : Byte) (k : Status) (d : Detail) : (s.raise op k d).devRx = s.devRx := rfl
@[simp] theorem State.raise_devMode (op : Byte) (k : Status) (d : Detail) : (s.raise op k d).devMode = s.devMode := rfl
@[simp] theorem State.raise_devDly (op : Byte) (k : Status) (d : Detail) : (s.raise op k d).devDly = s.devDly := rfl
@[simp] theorem State.raise_devFault (op : Byte) (k : Status) (d : Detail) : (s.raise op k d).devFault = s.devFault := rfl
@[simp] theorem State.raise_resp (op : Byte) (k : Status) (d : Detail) : (s.raise op k d).resp = some ⟨k, .none⟩ := rfl
@[simp] theorem State.raise_sampleOut (op : Byte) (k : Status) (d : Detail) : (s.raise op k d).sampleOut = s.sampleOut := rfl
@[simp] theorem State.raise_inbox (op : Byte) (k : Status) (d : Detail) : (s.raise op k d).inbox = s.inbox := rfl
@[simp] theorem State.raise_pos (op : Byte) (k : Status) (d : Detail) : (s.raise op k d).pos = s.pos := rfl
@[simp] theorem State.raise_draws (op : Byte) (k : Status) (d : Detail) : (s.raise op k d).draws = s.draws := rfl
@[simp] theorem State.raise_writeDraw (op : Byte) (k : Status) (d : Detail) : (s.raise op k d).writeDraw = s.writeDraw := rfl

/-! ### refuse -/

@[simp] theorem State.refuse_par (n : RefusalName) : (s.refuse n).par = s.par := rfl
@[simp] theorem State.refuse_bank (n : RefusalName) : (s.refuse n).bank = s.bank := rfl
@[simp] theorem State.refuse_respSnap (n : RefusalName) : (s.refuse n).respSnap = s.respSnap := rfl
@[simp] theorem State.refuse_respPub (n : RefusalName) : (s.refuse n).respPub = s.respPub := rfl
@[simp] theorem State.refuse_link (n : RefusalName) : (s.refuse n).link = s.link := rfl
@[simp] theorem State.refuse_h2d (n : RefusalName) : (s.refuse n).h2d = s.h2d := rfl
@[simp] theorem State.refuse_d2h (n : RefusalName) : (s.refuse n).d2h = s.d2h := rfl
@[simp] theorem State.refuse_telem (n : RefusalName) : (s.refuse n).telem = s.telem := rfl
@[simp] theorem State.refuse_diag (n : RefusalName) : (s.refuse n).diag = s.diag := rfl
@[simp] theorem State.refuse_refused (n : RefusalName) : (s.refuse n).refused = s.refused.insert n := rfl
@[simp] theorem State.refuse_respTimer (n : RefusalName) : (s.refuse n).respTimer = s.respTimer := rfl
@[simp] theorem State.refuse_pollTimer (n : RefusalName) : (s.refuse n).pollTimer = s.pollTimer := rfl
@[simp] theorem State.refuse_devActive (n : RefusalName) : (s.refuse n).devActive = s.devActive := rfl
@[simp] theorem State.refuse_devShadow (n : RefusalName) : (s.refuse n).devShadow = s.devShadow := rfl
@[simp] theorem State.refuse_devWmask (n : RefusalName) : (s.refuse n).devWmask = s.devWmask := rfl
@[simp] theorem State.refuse_devRx (n : RefusalName) : (s.refuse n).devRx = s.devRx := rfl
@[simp] theorem State.refuse_devMode (n : RefusalName) : (s.refuse n).devMode = s.devMode := rfl
@[simp] theorem State.refuse_devDly (n : RefusalName) : (s.refuse n).devDly = s.devDly := rfl
@[simp] theorem State.refuse_devFault (n : RefusalName) : (s.refuse n).devFault = s.devFault := rfl
@[simp] theorem State.refuse_resp (n : RefusalName) : (s.refuse n).resp = none := rfl
@[simp] theorem State.refuse_sampleOut (n : RefusalName) : (s.refuse n).sampleOut = s.sampleOut := rfl
@[simp] theorem State.refuse_inbox (n : RefusalName) : (s.refuse n).inbox = s.inbox := rfl
@[simp] theorem State.refuse_pos (n : RefusalName) : (s.refuse n).pos = s.pos := rfl
@[simp] theorem State.refuse_draws (n : RefusalName) : (s.refuse n).draws = s.draws := rfl
@[simp] theorem State.refuse_writeDraw (n : RefusalName) : (s.refuse n).writeDraw = s.writeDraw := rfl

/-! ### refuseSample -/

@[simp] theorem State.refuseSample_par : s.refuseSample.par = s.par := rfl
@[simp] theorem State.refuseSample_bank : s.refuseSample.bank = s.bank := rfl
@[simp] theorem State.refuseSample_respSnap : s.refuseSample.respSnap = s.respSnap := rfl
@[simp] theorem State.refuseSample_respPub : s.refuseSample.respPub = s.respPub := rfl
@[simp] theorem State.refuseSample_link : s.refuseSample.link = s.link := rfl
@[simp] theorem State.refuseSample_h2d : s.refuseSample.h2d = s.h2d := rfl
@[simp] theorem State.refuseSample_d2h : s.refuseSample.d2h = s.d2h := rfl
@[simp] theorem State.refuseSample_telem : s.refuseSample.telem = s.telem := rfl
@[simp] theorem State.refuseSample_diag : s.refuseSample.diag = s.diag := rfl
@[simp] theorem State.refuseSample_refused : s.refuseSample.refused = s.refused.insert .autoeqFilter := rfl
@[simp] theorem State.refuseSample_respTimer : s.refuseSample.respTimer = s.respTimer := rfl
@[simp] theorem State.refuseSample_pollTimer : s.refuseSample.pollTimer = s.pollTimer := rfl
@[simp] theorem State.refuseSample_devActive : s.refuseSample.devActive = s.devActive := rfl
@[simp] theorem State.refuseSample_devShadow : s.refuseSample.devShadow = s.devShadow := rfl
@[simp] theorem State.refuseSample_devWmask : s.refuseSample.devWmask = s.devWmask := rfl
@[simp] theorem State.refuseSample_devRx : s.refuseSample.devRx = s.devRx := rfl
@[simp] theorem State.refuseSample_devMode : s.refuseSample.devMode = s.devMode := rfl
@[simp] theorem State.refuseSample_devDly : s.refuseSample.devDly = s.devDly := rfl
@[simp] theorem State.refuseSample_devFault : s.refuseSample.devFault = s.devFault := rfl
@[simp] theorem State.refuseSample_resp : s.refuseSample.resp = s.resp := rfl
@[simp] theorem State.refuseSample_sampleOut : s.refuseSample.sampleOut = none := rfl
@[simp] theorem State.refuseSample_inbox : s.refuseSample.inbox = s.inbox := rfl
@[simp] theorem State.refuseSample_pos : s.refuseSample.pos = s.pos := rfl
@[simp] theorem State.refuseSample_draws : s.refuseSample.draws = s.draws := rfl
@[simp] theorem State.refuseSample_writeDraw : s.refuseSample.writeDraw = s.writeDraw := rfl

/-! ### recordFault -/

@[simp] theorem State.recordFault_par (f : DeviceFault) : (s.recordFault f).par = s.par := rfl
@[simp] theorem State.recordFault_bank (f : DeviceFault) : (s.recordFault f).bank = s.bank := rfl
@[simp] theorem State.recordFault_respSnap (f : DeviceFault) : (s.recordFault f).respSnap = s.respSnap := rfl
@[simp] theorem State.recordFault_respPub (f : DeviceFault) : (s.recordFault f).respPub = s.respPub := rfl
@[simp] theorem State.recordFault_link (f : DeviceFault) : (s.recordFault f).link = s.link := rfl
@[simp] theorem State.recordFault_h2d (f : DeviceFault) : (s.recordFault f).h2d = s.h2d := rfl
@[simp] theorem State.recordFault_d2h (f : DeviceFault) : (s.recordFault f).d2h = s.d2h := rfl
@[simp] theorem State.recordFault_telem (f : DeviceFault) : (s.recordFault f).telem = s.telem := rfl
@[simp] theorem State.recordFault_diag (f : DeviceFault) : (s.recordFault f).diag = s.diag := rfl
@[simp] theorem State.recordFault_refused (f : DeviceFault) : (s.recordFault f).refused = s.refused := rfl
@[simp] theorem State.recordFault_respTimer (f : DeviceFault) : (s.recordFault f).respTimer = s.respTimer := rfl
@[simp] theorem State.recordFault_pollTimer (f : DeviceFault) : (s.recordFault f).pollTimer = s.pollTimer := rfl
@[simp] theorem State.recordFault_devActive (f : DeviceFault) : (s.recordFault f).devActive = s.devActive := rfl
@[simp] theorem State.recordFault_devShadow (f : DeviceFault) : (s.recordFault f).devShadow = s.devShadow := rfl
@[simp] theorem State.recordFault_devWmask (f : DeviceFault) : (s.recordFault f).devWmask = s.devWmask := rfl
@[simp] theorem State.recordFault_devRx (f : DeviceFault) : (s.recordFault f).devRx = s.devRx := rfl
@[simp] theorem State.recordFault_devMode (f : DeviceFault) : (s.recordFault f).devMode = s.devMode := rfl
@[simp] theorem State.recordFault_devDly (f : DeviceFault) : (s.recordFault f).devDly = s.devDly := rfl
@[simp] theorem State.recordFault_devFault (f : DeviceFault) : (s.recordFault f).devFault = s.devFault.insert f := rfl
@[simp] theorem State.recordFault_resp (f : DeviceFault) : (s.recordFault f).resp = s.resp := rfl
@[simp] theorem State.recordFault_sampleOut (f : DeviceFault) : (s.recordFault f).sampleOut = s.sampleOut := rfl
@[simp] theorem State.recordFault_inbox (f : DeviceFault) : (s.recordFault f).inbox = s.inbox := rfl
@[simp] theorem State.recordFault_pos (f : DeviceFault) : (s.recordFault f).pos = s.pos := rfl
@[simp] theorem State.recordFault_draws (f : DeviceFault) : (s.recordFault f).draws = s.draws := rfl
@[simp] theorem State.recordFault_writeDraw (f : DeviceFault) : (s.recordFault f).writeDraw = s.writeDraw := rfl

/-! ### rescheduleResp -/

@[simp] theorem State.rescheduleResp_par : s.rescheduleResp.par = s.par := rfl
@[simp] theorem State.rescheduleResp_bank : s.rescheduleResp.bank = s.bank := rfl
@[simp] theorem State.rescheduleResp_respSnap : s.rescheduleResp.respSnap = s.respSnap := rfl
@[simp] theorem State.rescheduleResp_respPub : s.rescheduleResp.respPub = s.respPub := rfl
@[simp] theorem State.rescheduleResp_link : s.rescheduleResp.link = s.link := rfl
@[simp] theorem State.rescheduleResp_h2d : s.rescheduleResp.h2d = s.h2d := rfl
@[simp] theorem State.rescheduleResp_d2h : s.rescheduleResp.d2h = s.d2h := rfl
@[simp] theorem State.rescheduleResp_telem : s.rescheduleResp.telem = s.telem := rfl
@[simp] theorem State.rescheduleResp_diag : s.rescheduleResp.diag = s.diag := rfl
@[simp] theorem State.rescheduleResp_refused : s.rescheduleResp.refused = s.refused := rfl
@[simp] theorem State.rescheduleResp_respTimer : s.rescheduleResp.respTimer = .rescheduled := rfl
@[simp] theorem State.rescheduleResp_pollTimer : s.rescheduleResp.pollTimer = s.pollTimer := rfl
@[simp] theorem State.rescheduleResp_devActive : s.rescheduleResp.devActive = s.devActive := rfl
@[simp] theorem State.rescheduleResp_devShadow : s.rescheduleResp.devShadow = s.devShadow := rfl
@[simp] theorem State.rescheduleResp_devWmask : s.rescheduleResp.devWmask = s.devWmask := rfl
@[simp] theorem State.rescheduleResp_devRx : s.rescheduleResp.devRx = s.devRx := rfl
@[simp] theorem State.rescheduleResp_devMode : s.rescheduleResp.devMode = s.devMode := rfl
@[simp] theorem State.rescheduleResp_devDly : s.rescheduleResp.devDly = s.devDly := rfl
@[simp] theorem State.rescheduleResp_devFault : s.rescheduleResp.devFault = s.devFault := rfl
@[simp] theorem State.rescheduleResp_resp : s.rescheduleResp.resp = s.resp := rfl
@[simp] theorem State.rescheduleResp_sampleOut : s.rescheduleResp.sampleOut = s.sampleOut := rfl
@[simp] theorem State.rescheduleResp_inbox : s.rescheduleResp.inbox = s.inbox := rfl
@[simp] theorem State.rescheduleResp_pos : s.rescheduleResp.pos = s.pos := rfl
@[simp] theorem State.rescheduleResp_draws : s.rescheduleResp.draws = s.draws := rfl
@[simp] theorem State.rescheduleResp_writeDraw : s.rescheduleResp.writeDraw = s.writeDraw := rfl

/-! ### reschedulePoll -/

@[simp] theorem State.reschedulePoll_par : s.reschedulePoll.par = s.par := rfl
@[simp] theorem State.reschedulePoll_bank : s.reschedulePoll.bank = s.bank := rfl
@[simp] theorem State.reschedulePoll_respSnap : s.reschedulePoll.respSnap = s.respSnap := rfl
@[simp] theorem State.reschedulePoll_respPub : s.reschedulePoll.respPub = s.respPub := rfl
@[simp] theorem State.reschedulePoll_link : s.reschedulePoll.link = s.link := rfl
@[simp] theorem State.reschedulePoll_h2d : s.reschedulePoll.h2d = s.h2d := rfl
@[simp] theorem State.reschedulePoll_d2h : s.reschedulePoll.d2h = s.d2h := rfl
@[simp] theorem State.reschedulePoll_telem : s.reschedulePoll.telem = s.telem := rfl
@[simp] theorem State.reschedulePoll_diag : s.reschedulePoll.diag = s.diag := rfl
@[simp] theorem State.reschedulePoll_refused : s.reschedulePoll.refused = s.refused := rfl
@[simp] theorem State.reschedulePoll_respTimer : s.reschedulePoll.respTimer = s.respTimer := rfl
@[simp] theorem State.reschedulePoll_pollTimer : s.reschedulePoll.pollTimer = .rescheduled := rfl
@[simp] theorem State.reschedulePoll_devActive : s.reschedulePoll.devActive = s.devActive := rfl
@[simp] theorem State.reschedulePoll_devShadow : s.reschedulePoll.devShadow = s.devShadow := rfl
@[simp] theorem State.reschedulePoll_devWmask : s.reschedulePoll.devWmask = s.devWmask := rfl
@[simp] theorem State.reschedulePoll_devRx : s.reschedulePoll.devRx = s.devRx := rfl
@[simp] theorem State.reschedulePoll_devMode : s.reschedulePoll.devMode = s.devMode := rfl
@[simp] theorem State.reschedulePoll_devDly : s.reschedulePoll.devDly = s.devDly := rfl
@[simp] theorem State.reschedulePoll_devFault : s.reschedulePoll.devFault = s.devFault := rfl
@[simp] theorem State.reschedulePoll_resp : s.reschedulePoll.resp = s.resp := rfl
@[simp] theorem State.reschedulePoll_sampleOut : s.reschedulePoll.sampleOut = s.sampleOut := rfl
@[simp] theorem State.reschedulePoll_inbox : s.reschedulePoll.inbox = s.inbox := rfl
@[simp] theorem State.reschedulePoll_pos : s.reschedulePoll.pos = s.pos := rfl
@[simp] theorem State.reschedulePoll_draws : s.reschedulePoll.draws = s.draws := rfl
@[simp] theorem State.reschedulePoll_writeDraw : s.reschedulePoll.writeDraw = s.writeDraw := rfl

/-! ### setSectionAt -/

@[simp] theorem State.setSectionAt_par (i : Nat) (b : Biquad) : (s.setSectionAt i b).par = s.par := rfl
@[simp] theorem State.setSectionAt_bank (i : Nat) (b : Biquad) : (s.setSectionAt i b).bank = s.bank.set i b := rfl
@[simp] theorem State.setSectionAt_respSnap (i : Nat) (b : Biquad) : (s.setSectionAt i b).respSnap = s.respSnap := rfl
@[simp] theorem State.setSectionAt_respPub (i : Nat) (b : Biquad) : (s.setSectionAt i b).respPub = s.respPub := rfl
@[simp] theorem State.setSectionAt_link (i : Nat) (b : Biquad) : (s.setSectionAt i b).link = s.link := rfl
@[simp] theorem State.setSectionAt_h2d (i : Nat) (b : Biquad) : (s.setSectionAt i b).h2d = s.h2d := rfl
@[simp] theorem State.setSectionAt_d2h (i : Nat) (b : Biquad) : (s.setSectionAt i b).d2h = s.d2h := rfl
@[simp] theorem State.setSectionAt_telem (i : Nat) (b : Biquad) : (s.setSectionAt i b).telem = s.telem := rfl
@[simp] theorem State.setSectionAt_diag (i : Nat) (b : Biquad) : (s.setSectionAt i b).diag = s.diag := rfl
@[simp] theorem State.setSectionAt_refused (i : Nat) (b : Biquad) : (s.setSectionAt i b).refused = s.refused := rfl
@[simp] theorem State.setSectionAt_respTimer (i : Nat) (b : Biquad) : (s.setSectionAt i b).respTimer = s.respTimer := rfl
@[simp] theorem State.setSectionAt_pollTimer (i : Nat) (b : Biquad) : (s.setSectionAt i b).pollTimer = s.pollTimer := rfl
@[simp] theorem State.setSectionAt_devActive (i : Nat) (b : Biquad) : (s.setSectionAt i b).devActive = s.devActive := rfl
@[simp] theorem State.setSectionAt_devShadow (i : Nat) (b : Biquad) : (s.setSectionAt i b).devShadow = s.devShadow := rfl
@[simp] theorem State.setSectionAt_devWmask (i : Nat) (b : Biquad) : (s.setSectionAt i b).devWmask = s.devWmask := rfl
@[simp] theorem State.setSectionAt_devRx (i : Nat) (b : Biquad) : (s.setSectionAt i b).devRx = s.devRx := rfl
@[simp] theorem State.setSectionAt_devMode (i : Nat) (b : Biquad) : (s.setSectionAt i b).devMode = s.devMode := rfl
@[simp] theorem State.setSectionAt_devDly (i : Nat) (b : Biquad) : (s.setSectionAt i b).devDly = s.devDly := rfl
@[simp] theorem State.setSectionAt_devFault (i : Nat) (b : Biquad) : (s.setSectionAt i b).devFault = s.devFault := rfl
@[simp] theorem State.setSectionAt_resp (i : Nat) (b : Biquad) : (s.setSectionAt i b).resp = s.resp := rfl
@[simp] theorem State.setSectionAt_sampleOut (i : Nat) (b : Biquad) : (s.setSectionAt i b).sampleOut = s.sampleOut := rfl
@[simp] theorem State.setSectionAt_inbox (i : Nat) (b : Biquad) : (s.setSectionAt i b).inbox = s.inbox := rfl
@[simp] theorem State.setSectionAt_pos (i : Nat) (b : Biquad) : (s.setSectionAt i b).pos = s.pos := rfl
@[simp] theorem State.setSectionAt_draws (i : Nat) (b : Biquad) : (s.setSectionAt i b).draws = s.draws := rfl
@[simp] theorem State.setSectionAt_writeDraw (i : Nat) (b : Biquad) : (s.setSectionAt i b).writeDraw = s.writeDraw := rfl

/-! ### closeLink -/

@[simp] theorem State.closeLink_par : s.closeLink.par = s.par := rfl
@[simp] theorem State.closeLink_bank : s.closeLink.bank = s.bank := rfl
@[simp] theorem State.closeLink_respSnap : s.closeLink.respSnap = s.respSnap := rfl
@[simp] theorem State.closeLink_respPub : s.closeLink.respPub = s.respPub := rfl
@[simp] theorem State.closeLink_link : s.closeLink.link = .closed := rfl
@[simp] theorem State.closeLink_h2d : s.closeLink.h2d = s.h2d := rfl
@[simp] theorem State.closeLink_d2h : s.closeLink.d2h = [] := rfl
@[simp] theorem State.closeLink_telem : s.closeLink.telem = s.telem := rfl
@[simp] theorem State.closeLink_diag : s.closeLink.diag = s.diag := rfl
@[simp] theorem State.closeLink_refused : s.closeLink.refused = s.refused := rfl
@[simp] theorem State.closeLink_respTimer : s.closeLink.respTimer = s.respTimer := rfl
@[simp] theorem State.closeLink_pollTimer : s.closeLink.pollTimer = s.pollTimer := rfl
@[simp] theorem State.closeLink_devActive : s.closeLink.devActive = s.devActive := rfl
@[simp] theorem State.closeLink_devShadow : s.closeLink.devShadow = s.devShadow := rfl
@[simp] theorem State.closeLink_devWmask : s.closeLink.devWmask = s.devWmask := rfl
@[simp] theorem State.closeLink_devRx : s.closeLink.devRx = s.devRx := rfl
@[simp] theorem State.closeLink_devMode : s.closeLink.devMode = s.devMode := rfl
@[simp] theorem State.closeLink_devDly : s.closeLink.devDly = s.devDly := rfl
@[simp] theorem State.closeLink_devFault : s.closeLink.devFault = s.devFault := rfl
@[simp] theorem State.closeLink_resp : s.closeLink.resp = s.resp := rfl
@[simp] theorem State.closeLink_sampleOut : s.closeLink.sampleOut = s.sampleOut := rfl
@[simp] theorem State.closeLink_inbox : s.closeLink.inbox = s.inbox := rfl
@[simp] theorem State.closeLink_pos : s.closeLink.pos = s.pos := rfl
@[simp] theorem State.closeLink_draws : s.closeLink.draws = s.draws := rfl
@[simp] theorem State.closeLink_writeDraw : s.closeLink.writeDraw = s.writeDraw := rfl

/-! ### openLink -/

@[simp] theorem State.openLink_par (p : Port) : (s.openLink p).par = s.par := rfl
@[simp] theorem State.openLink_bank (p : Port) : (s.openLink p).bank = s.bank := rfl
@[simp] theorem State.openLink_respSnap (p : Port) : (s.openLink p).respSnap = s.respSnap := rfl
@[simp] theorem State.openLink_respPub (p : Port) : (s.openLink p).respPub = s.respPub := rfl
@[simp] theorem State.openLink_link (p : Port) : (s.openLink p).link = .opened p := rfl
@[simp] theorem State.openLink_h2d (p : Port) : (s.openLink p).h2d = s.h2d := rfl
@[simp] theorem State.openLink_d2h (p : Port) : (s.openLink p).d2h = s.d2h := rfl
@[simp] theorem State.openLink_telem (p : Port) : (s.openLink p).telem = s.telem := rfl
@[simp] theorem State.openLink_diag (p : Port) : (s.openLink p).diag = s.diag := rfl
@[simp] theorem State.openLink_refused (p : Port) : (s.openLink p).refused = s.refused := rfl
@[simp] theorem State.openLink_respTimer (p : Port) : (s.openLink p).respTimer = s.respTimer := rfl
@[simp] theorem State.openLink_pollTimer (p : Port) : (s.openLink p).pollTimer = s.pollTimer := rfl
@[simp] theorem State.openLink_devActive (p : Port) : (s.openLink p).devActive = s.devActive := rfl
@[simp] theorem State.openLink_devShadow (p : Port) : (s.openLink p).devShadow = s.devShadow := rfl
@[simp] theorem State.openLink_devWmask (p : Port) : (s.openLink p).devWmask = s.devWmask := rfl
@[simp] theorem State.openLink_devRx (p : Port) : (s.openLink p).devRx = s.devRx := rfl
@[simp] theorem State.openLink_devMode (p : Port) : (s.openLink p).devMode = s.devMode := rfl
@[simp] theorem State.openLink_devDly (p : Port) : (s.openLink p).devDly = s.devDly := rfl
@[simp] theorem State.openLink_devFault (p : Port) : (s.openLink p).devFault = s.devFault := rfl
@[simp] theorem State.openLink_resp (p : Port) : (s.openLink p).resp = s.resp := rfl
@[simp] theorem State.openLink_sampleOut (p : Port) : (s.openLink p).sampleOut = s.sampleOut := rfl
@[simp] theorem State.openLink_inbox (p : Port) : (s.openLink p).inbox = s.inbox := rfl
@[simp] theorem State.openLink_pos (p : Port) : (s.openLink p).pos = s.pos := rfl
@[simp] theorem State.openLink_draws (p : Port) : (s.openLink p).draws = s.draws := rfl
@[simp] theorem State.openLink_writeDraw (p : Port) : (s.openLink p).writeDraw = s.writeDraw := rfl

/-! ### drainD2h -/

@[simp] theorem State.drainD2h_par : s.drainD2h.par = s.par := rfl
@[simp] theorem State.drainD2h_bank : s.drainD2h.bank = s.bank := rfl
@[simp] theorem State.drainD2h_respSnap : s.drainD2h.respSnap = s.respSnap := rfl
@[simp] theorem State.drainD2h_respPub : s.drainD2h.respPub = s.respPub := rfl
@[simp] theorem State.drainD2h_link : s.drainD2h.link = s.link := rfl
@[simp] theorem State.drainD2h_h2d : s.drainD2h.h2d = s.h2d := rfl
@[simp] theorem State.drainD2h_d2h : s.drainD2h.d2h = [] := rfl
@[simp] theorem State.drainD2h_telem : s.drainD2h.telem = s.telem := rfl
@[simp] theorem State.drainD2h_diag : s.drainD2h.diag = s.diag := rfl
@[simp] theorem State.drainD2h_refused : s.drainD2h.refused = s.refused := rfl
@[simp] theorem State.drainD2h_respTimer : s.drainD2h.respTimer = s.respTimer := rfl
@[simp] theorem State.drainD2h_pollTimer : s.drainD2h.pollTimer = s.pollTimer := rfl
@[simp] theorem State.drainD2h_devActive : s.drainD2h.devActive = s.devActive := rfl
@[simp] theorem State.drainD2h_devShadow : s.drainD2h.devShadow = s.devShadow := rfl
@[simp] theorem State.drainD2h_devWmask : s.drainD2h.devWmask = s.devWmask := rfl
@[simp] theorem State.drainD2h_devRx : s.drainD2h.devRx = s.devRx := rfl
@[simp] theorem State.drainD2h_devMode : s.drainD2h.devMode = s.devMode := rfl
@[simp] theorem State.drainD2h_devDly : s.drainD2h.devDly = s.devDly := rfl
@[simp] theorem State.drainD2h_devFault : s.drainD2h.devFault = s.devFault := rfl
@[simp] theorem State.drainD2h_resp : s.drainD2h.resp = s.resp := rfl
@[simp] theorem State.drainD2h_sampleOut : s.drainD2h.sampleOut = s.sampleOut := rfl
@[simp] theorem State.drainD2h_inbox : s.drainD2h.inbox = s.inbox := rfl
@[simp] theorem State.drainD2h_pos : s.drainD2h.pos = s.pos := rfl
@[simp] theorem State.drainD2h_draws : s.drainD2h.draws = s.draws := rfl
@[simp] theorem State.drainD2h_writeDraw : s.drainD2h.writeDraw = s.writeDraw := rfl

/-! ### bufferFrame -/

@[simp] theorem State.bufferFrame_par (si : Byte) (ws : List Word) : (s.bufferFrame si ws).par = s.par := rfl
@[simp] theorem State.bufferFrame_bank (si : Byte) (ws : List Word) : (s.bufferFrame si ws).bank = s.bank := rfl
@[simp] theorem State.bufferFrame_respSnap (si : Byte) (ws : List Word) : (s.bufferFrame si ws).respSnap = s.respSnap := rfl
@[simp] theorem State.bufferFrame_respPub (si : Byte) (ws : List Word) : (s.bufferFrame si ws).respPub = s.respPub := rfl
@[simp] theorem State.bufferFrame_link (si : Byte) (ws : List Word) : (s.bufferFrame si ws).link = s.link := rfl
@[simp] theorem State.bufferFrame_h2d (si : Byte) (ws : List Word) : (s.bufferFrame si ws).h2d = s.h2d := rfl
@[simp] theorem State.bufferFrame_d2h (si : Byte) (ws : List Word) : (s.bufferFrame si ws).d2h = s.d2h := rfl
@[simp] theorem State.bufferFrame_telem (si : Byte) (ws : List Word) : (s.bufferFrame si ws).telem = s.telem := rfl
@[simp] theorem State.bufferFrame_diag (si : Byte) (ws : List Word) : (s.bufferFrame si ws).diag = s.diag := rfl
@[simp] theorem State.bufferFrame_refused (si : Byte) (ws : List Word) : (s.bufferFrame si ws).refused = s.refused := rfl
@[simp] theorem State.bufferFrame_respTimer (si : Byte) (ws : List Word) : (s.bufferFrame si ws).respTimer = s.respTimer := rfl
@[simp] theorem State.bufferFrame_pollTimer (si : Byte) (ws : List Word) : (s.bufferFrame si ws).pollTimer = s.pollTimer := rfl
@[simp] theorem State.bufferFrame_devActive (si : Byte) (ws : List Word) : (s.bufferFrame si ws).devActive = s.devActive := rfl
@[simp] theorem State.bufferFrame_devShadow (si : Byte) (ws : List Word) : (s.bufferFrame si ws).devShadow = putFrom s.devShadow si.toNat ws := rfl
@[simp] theorem State.bufferFrame_devWmask (si : Byte) (ws : List Word) : (s.bufferFrame si ws).devWmask = putFrom s.devWmask si.toNat (ws.map fun _ => true) := rfl
@[simp] theorem State.bufferFrame_devRx (si : Byte) (ws : List Word) : (s.bufferFrame si ws).devRx = s.devRx := rfl
@[simp] theorem State.bufferFrame_devMode (si : Byte) (ws : List Word) : (s.bufferFrame si ws).devMode = s.devMode := rfl
@[simp] theorem State.bufferFrame_devDly (si : Byte) (ws : List Word) : (s.bufferFrame si ws).devDly = s.devDly := rfl
@[simp] theorem State.bufferFrame_devFault (si : Byte) (ws : List Word) : (s.bufferFrame si ws).devFault = s.devFault := rfl
@[simp] theorem State.bufferFrame_resp (si : Byte) (ws : List Word) : (s.bufferFrame si ws).resp = s.resp := rfl
@[simp] theorem State.bufferFrame_sampleOut (si : Byte) (ws : List Word) : (s.bufferFrame si ws).sampleOut = s.sampleOut := rfl
@[simp] theorem State.bufferFrame_inbox (si : Byte) (ws : List Word) : (s.bufferFrame si ws).inbox = s.inbox := rfl
@[simp] theorem State.bufferFrame_pos (si : Byte) (ws : List Word) : (s.bufferFrame si ws).pos = s.pos := rfl
@[simp] theorem State.bufferFrame_draws (si : Byte) (ws : List Word) : (s.bufferFrame si ws).draws = s.draws := rfl
@[simp] theorem State.bufferFrame_writeDraw (si : Byte) (ws : List Word) : (s.bufferFrame si ws).writeDraw = s.writeDraw := rfl

/-! ### commit -/

@[simp] theorem State.commit_par : s.commit.par = s.par := rfl
@[simp] theorem State.commit_bank : s.commit.bank = s.bank := rfl
@[simp] theorem State.commit_respSnap : s.commit.respSnap = s.respSnap := rfl
@[simp] theorem State.commit_respPub : s.commit.respPub = s.respPub := rfl
@[simp] theorem State.commit_link : s.commit.link = s.link := rfl
@[simp] theorem State.commit_h2d : s.commit.h2d = s.h2d := rfl
@[simp] theorem State.commit_d2h : s.commit.d2h = s.d2h := rfl
@[simp] theorem State.commit_telem : s.commit.telem = s.telem := rfl
@[simp] theorem State.commit_diag : s.commit.diag = s.diag := rfl
@[simp] theorem State.commit_refused : s.commit.refused = s.refused := rfl
@[simp] theorem State.commit_respTimer : s.commit.respTimer = s.respTimer := rfl
@[simp] theorem State.commit_pollTimer : s.commit.pollTimer = s.pollTimer := rfl
@[simp] theorem State.commit_devActive : s.commit.devActive = (List.range s.par.NF).map s.committedWord := rfl
@[simp] theorem State.commit_devShadow : s.commit.devShadow = s.devShadow := rfl
@[simp] theorem State.commit_devWmask : s.commit.devWmask = List.replicate s.par.NF false := rfl
@[simp] theorem State.commit_devRx : s.commit.devRx = s.devRx := rfl
@[simp] theorem State.commit_devMode : s.commit.devMode = if s.par.commitExitsAutoeq then .normal else s.devMode := rfl
@[simp] theorem State.commit_devDly : s.commit.devDly = if s.par.commitClearsState then List.replicate s.par.N Delay.zero else s.devDly := rfl
@[simp] theorem State.commit_devFault : s.commit.devFault = s.devFault := rfl
@[simp] theorem State.commit_resp : s.commit.resp = s.resp := rfl
@[simp] theorem State.commit_sampleOut : s.commit.sampleOut = s.sampleOut := rfl
@[simp] theorem State.commit_inbox : s.commit.inbox = s.inbox := rfl
@[simp] theorem State.commit_pos : s.commit.pos = s.pos := rfl
@[simp] theorem State.commit_draws : s.commit.draws = s.draws + s.par.NF := rfl
@[simp] theorem State.commit_writeDraw : s.commit.writeDraw = s.writeDraw := rfl

/-! ### setRx -/

@[simp] theorem State.setRx_par (st : RxState) : (s.setRx st).par = s.par := rfl
@[simp] theorem State.setRx_bank (st : RxState) : (s.setRx st).bank = s.bank := rfl
@[simp] theorem State.setRx_respSnap (st : RxState) : (s.setRx st).respSnap = s.respSnap := rfl
@[simp] theorem State.setRx_respPub (st : RxState) : (s.setRx st).respPub = s.respPub := rfl
@[simp] theorem State.setRx_link (st : RxState) : (s.setRx st).link = s.link := rfl
@[simp] theorem State.setRx_h2d (st : RxState) : (s.setRx st).h2d = s.h2d := rfl
@[simp] theorem State.setRx_d2h (st : RxState) : (s.setRx st).d2h = s.d2h := rfl
@[simp] theorem State.setRx_telem (st : RxState) : (s.setRx st).telem = s.telem := rfl
@[simp] theorem State.setRx_diag (st : RxState) : (s.setRx st).diag = s.diag := rfl
@[simp] theorem State.setRx_refused (st : RxState) : (s.setRx st).refused = s.refused := rfl
@[simp] theorem State.setRx_respTimer (st : RxState) : (s.setRx st).respTimer = s.respTimer := rfl
@[simp] theorem State.setRx_pollTimer (st : RxState) : (s.setRx st).pollTimer = s.pollTimer := rfl
@[simp] theorem State.setRx_devActive (st : RxState) : (s.setRx st).devActive = s.devActive := rfl
@[simp] theorem State.setRx_devShadow (st : RxState) : (s.setRx st).devShadow = s.devShadow := rfl
@[simp] theorem State.setRx_devWmask (st : RxState) : (s.setRx st).devWmask = s.devWmask := rfl
@[simp] theorem State.setRx_devRx (st : RxState) : (s.setRx st).devRx = st := rfl
@[simp] theorem State.setRx_devMode (st : RxState) : (s.setRx st).devMode = s.devMode := rfl
@[simp] theorem State.setRx_devDly (st : RxState) : (s.setRx st).devDly = s.devDly := rfl
@[simp] theorem State.setRx_devFault (st : RxState) : (s.setRx st).devFault = s.devFault := rfl
@[simp] theorem State.setRx_resp (st : RxState) : (s.setRx st).resp = s.resp := rfl
@[simp] theorem State.setRx_sampleOut (st : RxState) : (s.setRx st).sampleOut = s.sampleOut := rfl
@[simp] theorem State.setRx_inbox (st : RxState) : (s.setRx st).inbox = s.inbox := rfl
@[simp] theorem State.setRx_pos (st : RxState) : (s.setRx st).pos = s.pos := rfl
@[simp] theorem State.setRx_draws (st : RxState) : (s.setRx st).draws = s.draws := rfl
@[simp] theorem State.setRx_writeDraw (st : RxState) : (s.setRx st).writeDraw = s.writeDraw := rfl

/-! ### publish -/

@[simp] theorem State.publish_par : s.publish.par = s.par := rfl
@[simp] theorem State.publish_bank : s.publish.bank = s.bank := rfl
@[simp] theorem State.publish_respSnap : s.publish.respSnap = some (flatten s.bank) := rfl
@[simp] theorem State.publish_respPub : s.publish.respPub = some (response s.par (flatten s.bank)) := rfl
@[simp] theorem State.publish_link : s.publish.link = s.link := rfl
@[simp] theorem State.publish_h2d : s.publish.h2d = s.h2d := rfl
@[simp] theorem State.publish_d2h : s.publish.d2h = s.d2h := rfl
@[simp] theorem State.publish_telem : s.publish.telem = s.telem := rfl
@[simp] theorem State.publish_diag : s.publish.diag = s.diag := rfl
@[simp] theorem State.publish_refused : s.publish.refused = s.refused := rfl
@[simp] theorem State.publish_respTimer : s.publish.respTimer = s.respTimer := rfl
@[simp] theorem State.publish_pollTimer : s.publish.pollTimer = s.pollTimer := rfl
@[simp] theorem State.publish_devActive : s.publish.devActive = s.devActive := rfl
@[simp] theorem State.publish_devShadow : s.publish.devShadow = s.devShadow := rfl
@[simp] theorem State.publish_devWmask : s.publish.devWmask = s.devWmask := rfl
@[simp] theorem State.publish_devRx : s.publish.devRx = s.devRx := rfl
@[simp] theorem State.publish_devMode : s.publish.devMode = s.devMode := rfl
@[simp] theorem State.publish_devDly : s.publish.devDly = s.devDly := rfl
@[simp] theorem State.publish_devFault : s.publish.devFault = s.devFault := rfl
@[simp] theorem State.publish_resp : s.publish.resp = s.resp := rfl
@[simp] theorem State.publish_sampleOut : s.publish.sampleOut = s.sampleOut := rfl
@[simp] theorem State.publish_inbox : s.publish.inbox = s.inbox := rfl
@[simp] theorem State.publish_pos : s.publish.pos = s.pos := rfl
@[simp] theorem State.publish_draws : s.publish.draws = s.draws := rfl
@[simp] theorem State.publish_writeDraw : s.publish.writeDraw = s.writeDraw := rfl

/-! ### runSample -/

@[simp] theorem State.runSample_par (x : Number) : (s.runSample x).par = s.par := rfl
@[simp] theorem State.runSample_bank (x : Number) : (s.runSample x).bank = s.bank := rfl
@[simp] theorem State.runSample_respSnap (x : Number) : (s.runSample x).respSnap = s.respSnap := rfl
@[simp] theorem State.runSample_respPub (x : Number) : (s.runSample x).respPub = s.respPub := rfl
@[simp] theorem State.runSample_link (x : Number) : (s.runSample x).link = s.link := rfl
@[simp] theorem State.runSample_h2d (x : Number) : (s.runSample x).h2d = s.h2d := rfl
@[simp] theorem State.runSample_d2h (x : Number) : (s.runSample x).d2h = s.d2h := rfl
@[simp] theorem State.runSample_telem (x : Number) : (s.runSample x).telem = s.telem := rfl
@[simp] theorem State.runSample_diag (x : Number) : (s.runSample x).diag = s.diag := rfl
@[simp] theorem State.runSample_refused (x : Number) : (s.runSample x).refused = s.refused := rfl
@[simp] theorem State.runSample_respTimer (x : Number) : (s.runSample x).respTimer = s.respTimer := rfl
@[simp] theorem State.runSample_pollTimer (x : Number) : (s.runSample x).pollTimer = s.pollTimer := rfl
@[simp] theorem State.runSample_devActive (x : Number) : (s.runSample x).devActive = s.devActive := rfl
@[simp] theorem State.runSample_devShadow (x : Number) : (s.runSample x).devShadow = s.devShadow := rfl
@[simp] theorem State.runSample_devWmask (x : Number) : (s.runSample x).devWmask = s.devWmask := rfl
@[simp] theorem State.runSample_devRx (x : Number) : (s.runSample x).devRx = s.devRx := rfl
@[simp] theorem State.runSample_devMode (x : Number) : (s.runSample x).devMode = s.devMode := rfl
@[simp] theorem State.runSample_devDly (x : Number) : (s.runSample x).devDly = (cascadeStep s.par.devArith.arith s.devActive s.devDly x).1 := rfl
@[simp] theorem State.runSample_devFault (x : Number) : (s.runSample x).devFault = s.devFault := rfl
@[simp] theorem State.runSample_resp (x : Number) : (s.runSample x).resp = s.resp := rfl
@[simp] theorem State.runSample_sampleOut (x : Number) : (s.runSample x).sampleOut = some (cascadeStep s.par.devArith.arith s.devActive s.devDly x).2 := rfl
@[simp] theorem State.runSample_inbox (x : Number) : (s.runSample x).inbox = s.inbox := rfl
@[simp] theorem State.runSample_pos (x : Number) : (s.runSample x).pos = s.pos := rfl
@[simp] theorem State.runSample_draws (x : Number) : (s.runSample x).draws = s.draws := rfl
@[simp] theorem State.runSample_writeDraw (x : Number) : (s.runSample x).writeDraw = s.writeDraw := rfl

/-! ### popEvent -/

@[simp] theorem State.popEvent_par : s.popEvent.par = s.par := rfl
@[simp] theorem State.popEvent_bank : s.popEvent.bank = s.bank := rfl
@[simp] theorem State.popEvent_respSnap : s.popEvent.respSnap = s.respSnap := rfl
@[simp] theorem State.popEvent_respPub : s.popEvent.respPub = s.respPub := rfl
@[simp] theorem State.popEvent_link : s.popEvent.link = s.link := rfl
@[simp] theorem State.popEvent_h2d : s.popEvent.h2d = s.h2d := rfl
@[simp] theorem State.popEvent_d2h : s.popEvent.d2h = s.d2h := rfl
@[simp] theorem State.popEvent_telem : s.popEvent.telem = s.telem := rfl
@[simp] theorem State.popEvent_diag : s.popEvent.diag = s.diag := rfl
@[simp] theorem State.popEvent_refused : s.popEvent.refused = s.refused := rfl
@[simp] theorem State.popEvent_respTimer : s.popEvent.respTimer = s.respTimer := rfl
@[simp] theorem State.popEvent_pollTimer : s.popEvent.pollTimer = s.pollTimer := rfl
@[simp] theorem State.popEvent_devActive : s.popEvent.devActive = s.devActive := rfl
@[simp] theorem State.popEvent_devShadow : s.popEvent.devShadow = s.devShadow := rfl
@[simp] theorem State.popEvent_devWmask : s.popEvent.devWmask = s.devWmask := rfl
@[simp] theorem State.popEvent_devRx : s.popEvent.devRx = s.devRx := rfl
@[simp] theorem State.popEvent_devMode : s.popEvent.devMode = s.devMode := rfl
@[simp] theorem State.popEvent_devDly : s.popEvent.devDly = s.devDly := rfl
@[simp] theorem State.popEvent_devFault : s.popEvent.devFault = s.devFault := rfl
@[simp] theorem State.popEvent_resp : s.popEvent.resp = s.resp := rfl
@[simp] theorem State.popEvent_sampleOut : s.popEvent.sampleOut = s.sampleOut := rfl
@[simp] theorem State.popEvent_inbox : s.popEvent.inbox = s.inbox.tail := rfl
@[simp] theorem State.popEvent_pos : s.popEvent.pos = s.pos + 1 := rfl
@[simp] theorem State.popEvent_draws : s.popEvent.draws = s.draws := rfl
@[simp] theorem State.popEvent_writeDraw : s.popEvent.writeDraw = s.writeDraw := rfl

/-! ### blockReset -/

@[simp] theorem State.blockReset_par : s.blockReset.par = s.par := rfl
@[simp] theorem State.blockReset_bank : s.blockReset.bank = bankAtReset s.par := rfl
@[simp] theorem State.blockReset_respSnap : s.blockReset.respSnap = none := rfl
@[simp] theorem State.blockReset_respPub : s.blockReset.respPub = none := rfl
@[simp] theorem State.blockReset_link : s.blockReset.link = .closed := rfl
@[simp] theorem State.blockReset_h2d : s.blockReset.h2d = [] := rfl
@[simp] theorem State.blockReset_d2h : s.blockReset.d2h = [] := rfl
@[simp] theorem State.blockReset_telem : s.blockReset.telem = [] := rfl
@[simp] theorem State.blockReset_diag : s.blockReset.diag = [] := rfl
@[simp] theorem State.blockReset_refused : s.blockReset.refused = [] := rfl
@[simp] theorem State.blockReset_respTimer : s.blockReset.respTimer = .firstTickPending := rfl
@[simp] theorem State.blockReset_pollTimer : s.blockReset.pollTimer = .firstTickPending := rfl
@[simp] theorem State.blockReset_devActive : s.blockReset.devActive = s.devActive := rfl
@[simp] theorem State.blockReset_devShadow : s.blockReset.devShadow = s.devShadow := rfl
@[simp] theorem State.blockReset_devWmask : s.blockReset.devWmask = s.devWmask := rfl
@[simp] theorem State.blockReset_devRx : s.blockReset.devRx = s.devRx := rfl
@[simp] theorem State.blockReset_devMode : s.blockReset.devMode = s.devMode := rfl
@[simp] theorem State.blockReset_devDly : s.blockReset.devDly = s.devDly := rfl
@[simp] theorem State.blockReset_devFault : s.blockReset.devFault = s.devFault := rfl
@[simp] theorem State.blockReset_resp : s.blockReset.resp = none := rfl
@[simp] theorem State.blockReset_sampleOut : s.blockReset.sampleOut = s.sampleOut := rfl
@[simp] theorem State.blockReset_inbox : s.blockReset.inbox = s.inbox := rfl
@[simp] theorem State.blockReset_pos : s.blockReset.pos = s.pos := rfl
@[simp] theorem State.blockReset_draws : s.blockReset.draws = s.draws := rfl
@[simp] theorem State.blockReset_writeDraw : s.blockReset.writeDraw = s.writeDraw := rfl

/-! ### deviceReset -/

@[simp] theorem State.deviceReset_par : s.deviceReset.par = s.par := rfl
@[simp] theorem State.deviceReset_bank : s.deviceReset.bank = s.bank := rfl
@[simp] theorem State.deviceReset_respSnap : s.deviceReset.respSnap = s.respSnap := rfl
@[simp] theorem State.deviceReset_respPub : s.deviceReset.respPub = s.respPub := rfl
@[simp] theorem State.deviceReset_link : s.deviceReset.link = s.link := rfl
@[simp] theorem State.deviceReset_h2d : s.deviceReset.h2d = s.h2d := rfl
@[simp] theorem State.deviceReset_d2h : s.deviceReset.d2h = s.d2h := rfl
@[simp] theorem State.deviceReset_telem : s.deviceReset.telem = s.telem := rfl
@[simp] theorem State.deviceReset_diag : s.deviceReset.diag = s.diag := rfl
@[simp] theorem State.deviceReset_refused : s.deviceReset.refused = s.refused := rfl
@[simp] theorem State.deviceReset_respTimer : s.deviceReset.respTimer = s.respTimer := rfl
@[simp] theorem State.deviceReset_pollTimer : s.deviceReset.pollTimer = s.pollTimer := rfl
@[simp] theorem State.deviceReset_devActive : s.deviceReset.devActive = activeAtReset s.par s.draws := rfl
@[simp] theorem State.deviceReset_devShadow : s.deviceReset.devShadow = freeWords (s.draws + s.par.NF) s.par.NF := rfl
@[simp] theorem State.deviceReset_devWmask : s.deviceReset.devWmask = List.replicate s.par.NF false := rfl
@[simp] theorem State.deviceReset_devRx : s.deviceReset.devRx = .idle := rfl
@[simp] theorem State.deviceReset_devMode : s.deviceReset.devMode = .normal := rfl
@[simp] theorem State.deviceReset_devDly : s.deviceReset.devDly = List.replicate s.par.N Delay.zero := rfl
@[simp] theorem State.deviceReset_devFault : s.deviceReset.devFault = [] := rfl
@[simp] theorem State.deviceReset_resp : s.deviceReset.resp = s.resp := rfl
@[simp] theorem State.deviceReset_sampleOut : s.deviceReset.sampleOut = none := rfl
@[simp] theorem State.deviceReset_inbox : s.deviceReset.inbox = s.inbox := rfl
@[simp] theorem State.deviceReset_pos : s.deviceReset.pos = s.pos := rfl
@[simp] theorem State.deviceReset_draws : s.deviceReset.draws = s.draws + 2 * s.par.NF := rfl
@[simp] theorem State.deviceReset_writeDraw : s.deviceReset.writeDraw = s.writeDraw := rfl

end Sys2Proof.Machine
end

