-- ==== Sys2Proof/Laws/Ops.lean ====
section
/-! SUPPORT. What the shared operations with several cases leave as it was, and what they do in each case. -/

namespace Sys2Proof.Machine

variable (s : State)

/-! ### cutAt -/

@[simp] theorem State.cutAt_par (ms : List (List Byte)) (n : Nat) : (s.cutAt ms n).par = s.par := by unfold State.cutAt; split <;> rfl
@[simp] theorem State.cutAt_bank (ms : List (List Byte)) (n : Nat) : (s.cutAt ms n).bank = s.bank := by unfold State.cutAt; split <;> rfl
@[simp] theorem State.cutAt_respSnap (ms : List (List Byte)) (n : Nat) : (s.cutAt ms n).respSnap = s.respSnap := by unfold State.cutAt; split <;> rfl
@[simp] theorem State.cutAt_respPub (ms : List (List Byte)) (n : Nat) : (s.cutAt ms n).respPub = s.respPub := by unfold State.cutAt; split <;> rfl
@[simp] theorem State.cutAt_link (ms : List (List Byte)) (n : Nat) : (s.cutAt ms n).link = s.link := by unfold State.cutAt; split <;> rfl
@[simp] theorem State.cutAt_h2d (ms : List (List Byte)) (n : Nat) : (s.cutAt ms n).h2d = s.h2d := by unfold State.cutAt; split <;> rfl
@[simp] theorem State.cutAt_d2h (ms : List (List Byte)) (n : Nat) : (s.cutAt ms n).d2h = s.d2h := by unfold State.cutAt; split <;> rfl
@[simp] theorem State.cutAt_telem (ms : List (List Byte)) (n : Nat) : (s.cutAt ms n).telem = s.telem := by unfold State.cutAt; split <;> rfl
@[simp] theorem State.cutAt_diag (ms : List (List Byte)) (n : Nat) : (s.cutAt ms n).diag = s.diag := by unfold State.cutAt; split <;> rfl
@[simp] theorem State.cutAt_refused (ms : List (List Byte)) (n : Nat) : (s.cutAt ms n).refused = s.refused := by unfold State.cutAt; split <;> rfl
@[simp] theorem State.cutAt_respTimer (ms : List (List Byte)) (n : Nat) : (s.cutAt ms n).respTimer = s.respTimer := by unfold State.cutAt; split <;> rfl
@[simp] theorem State.cutAt_pollTimer (ms : List (List Byte)) (n : Nat) : (s.cutAt ms n).pollTimer = s.pollTimer := by unfold State.cutAt; split <;> rfl
@[simp] theorem State.cutAt_devActive (ms : List (List Byte)) (n : Nat) : (s.cutAt ms n).devActive = s.devActive := by unfold State.cutAt; split <;> rfl
@[simp] theorem State.cutAt_devShadow (ms : List (List Byte)) (n : Nat) : (s.cutAt ms n).devShadow = s.devShadow := by unfold State.cutAt; split <;> rfl
@[simp] theorem State.cutAt_devWmask (ms : List (List Byte)) (n : Nat) : (s.cutAt ms n).devWmask = s.devWmask := by unfold State.cutAt; split <;> rfl
@[simp] theorem State.cutAt_devRx (ms : List (List Byte)) (n : Nat) : (s.cutAt ms n).devRx = s.devRx := by unfold State.cutAt; split <;> rfl
@[simp] theorem State.cutAt_devMode (ms : List (List Byte)) (n : Nat) : (s.cutAt ms n).devMode = s.devMode := by unfold State.cutAt; split <;> rfl
@[simp] theorem State.cutAt_devDly (ms : List (List Byte)) (n : Nat) : (s.cutAt ms n).devDly = s.devDly := by unfold State.cutAt; split <;> rfl
@[simp] theorem State.cutAt_resp (ms : List (List Byte)) (n : Nat) : (s.cutAt ms n).resp = s.resp := by unfold State.cutAt; split <;> rfl
@[simp] theorem State.cutAt_sampleOut (ms : List (List Byte)) (n : Nat) : (s.cutAt ms n).sampleOut = s.sampleOut := by unfold State.cutAt; split <;> rfl
@[simp] theorem State.cutAt_inbox (ms : List (List Byte)) (n : Nat) : (s.cutAt ms n).inbox = s.inbox := by unfold State.cutAt; split <;> rfl
@[simp] theorem State.cutAt_pos (ms : List (List Byte)) (n : Nat) : (s.cutAt ms n).pos = s.pos := by unfold State.cutAt; split <;> rfl
@[simp] theorem State.cutAt_draws (ms : List (List Byte)) (n : Nat) : (s.cutAt ms n).draws = s.draws := by unfold State.cutAt; split <;> rfl
@[simp] theorem State.cutAt_writeDraw (ms : List (List Byte)) (n : Nat) : (s.cutAt ms n).writeDraw = s.writeDraw := by unfold State.cutAt; split <;> rfl

/-! ### releaseLink -/

@[simp] theorem State.releaseLink_par : s.releaseLink.par = s.par := by unfold State.releaseLink; split <;> rfl
@[simp] theorem State.releaseLink_bank : s.releaseLink.bank = s.bank := by unfold State.releaseLink; split <;> rfl
@[simp] theorem State.releaseLink_respSnap : s.releaseLink.respSnap = s.respSnap := by unfold State.releaseLink; split <;> rfl
@[simp] theorem State.releaseLink_respPub : s.releaseLink.respPub = s.respPub := by unfold State.releaseLink; split <;> rfl
@[simp] theorem State.releaseLink_h2d : s.releaseLink.h2d = s.h2d := by unfold State.releaseLink; split <;> rfl
@[simp] theorem State.releaseLink_telem : s.releaseLink.telem = s.telem := by unfold State.releaseLink; split <;> rfl
@[simp] theorem State.releaseLink_diag : s.releaseLink.diag = s.diag := by unfold State.releaseLink; split <;> rfl
@[simp] theorem State.releaseLink_refused : s.releaseLink.refused = s.refused := by unfold State.releaseLink; split <;> rfl
@[simp] theorem State.releaseLink_respTimer : s.releaseLink.respTimer = s.respTimer := by unfold State.releaseLink; split <;> rfl
@[simp] theorem State.releaseLink_pollTimer : s.releaseLink.pollTimer = s.pollTimer := by unfold State.releaseLink; split <;> rfl
@[simp] theorem State.releaseLink_devActive : s.releaseLink.devActive = s.devActive := by unfold State.releaseLink; split <;> rfl
@[simp] theorem State.releaseLink_devShadow : s.releaseLink.devShadow = s.devShadow := by unfold State.releaseLink; split <;> rfl
@[simp] theorem State.releaseLink_devWmask : s.releaseLink.devWmask = s.devWmask := by unfold State.releaseLink; split <;> rfl
@[simp] theorem State.releaseLink_devRx : s.releaseLink.devRx = s.devRx := by unfold State.releaseLink; split <;> rfl
@[simp] theorem State.releaseLink_devMode : s.releaseLink.devMode = s.devMode := by unfold State.releaseLink; split <;> rfl
@[simp] theorem State.releaseLink_devDly : s.releaseLink.devDly = s.devDly := by unfold State.releaseLink; split <;> rfl
@[simp] theorem State.releaseLink_devFault : s.releaseLink.devFault = s.devFault := by unfold State.releaseLink; split <;> rfl
@[simp] theorem State.releaseLink_resp : s.releaseLink.resp = s.resp := by unfold State.releaseLink; split <;> rfl
@[simp] theorem State.releaseLink_sampleOut : s.releaseLink.sampleOut = s.sampleOut := by unfold State.releaseLink; split <;> rfl
@[simp] theorem State.releaseLink_inbox : s.releaseLink.inbox = s.inbox := by unfold State.releaseLink; split <;> rfl
@[simp] theorem State.releaseLink_pos : s.releaseLink.pos = s.pos := by unfold State.releaseLink; split <;> rfl
@[simp] theorem State.releaseLink_draws : s.releaseLink.draws = s.draws := by unfold State.releaseLink; split <;> rfl
@[simp] theorem State.releaseLink_writeDraw : s.releaseLink.writeDraw = s.writeDraw := by unfold State.releaseLink; split <;> rfl

/-! ### telemetryByte -/

@[simp] theorem State.telemetryByte_par (b : Byte) : (s.telemetryByte b).par = s.par := by unfold State.telemetryByte; split <;> rfl
@[simp] theorem State.telemetryByte_bank (b : Byte) : (s.telemetryByte b).bank = s.bank := by unfold State.telemetryByte; split <;> rfl
@[simp] theorem State.telemetryByte_respSnap (b : Byte) : (s.telemetryByte b).respSnap = s.respSnap := by unfold State.telemetryByte; split <;> rfl
@[simp] theorem State.telemetryByte_respPub (b : Byte) : (s.telemetryByte b).respPub = s.respPub := by unfold State.telemetryByte; split <;> rfl
@[simp] theorem State.telemetryByte_link (b : Byte) : (s.telemetryByte b).link = s.link := by unfold State.telemetryByte; split <;> rfl
@[simp] theorem State.telemetryByte_h2d (b : Byte) : (s.telemetryByte b).h2d = s.h2d := by unfold State.telemetryByte; split <;> rfl
@[simp] theorem State.telemetryByte_telem (b : Byte) : (s.telemetryByte b).telem = s.telem := by unfold State.telemetryByte; split <;> rfl
@[simp] theorem State.telemetryByte_diag (b : Byte) : (s.telemetryByte b).diag = s.diag := by unfold State.telemetryByte; split <;> rfl
@[simp] theorem State.telemetryByte_refused (b : Byte) : (s.telemetryByte b).refused = s.refused := by unfold State.telemetryByte; split <;> rfl
@[simp] theorem State.telemetryByte_respTimer (b : Byte) : (s.telemetryByte b).respTimer = s.respTimer := by unfold State.telemetryByte; split <;> rfl
@[simp] theorem State.telemetryByte_pollTimer (b : Byte) : (s.telemetryByte b).pollTimer = s.pollTimer := by unfold State.telemetryByte; split <;> rfl
@[simp] theorem State.telemetryByte_devActive (b : Byte) : (s.telemetryByte b).devActive = s.devActive := by unfold State.telemetryByte; split <;> rfl
@[simp] theorem State.telemetryByte_devShadow (b : Byte) : (s.telemetryByte b).devShadow = s.devShadow := by unfold State.telemetryByte; split <;> rfl
@[simp] theorem State.telemetryByte_devWmask (b : Byte) : (s.telemetryByte b).devWmask = s.devWmask := by unfold State.telemetryByte; split <;> rfl
@[simp] theorem State.telemetryByte_devRx (b : Byte) : (s.telemetryByte b).devRx = s.devRx := by unfold State.telemetryByte; split <;> rfl
@[simp] theorem State.telemetryByte_devMode (b : Byte) : (s.telemetryByte b).devMode = s.devMode := by unfold State.telemetryByte; split <;> rfl
@[simp] theorem State.telemetryByte_devDly (b : Byte) : (s.telemetryByte b).devDly = s.devDly := by unfold State.telemetryByte; split <;> rfl
@[simp] theorem State.telemetryByte_devFault (b : Byte) : (s.telemetryByte b).devFault = s.devFault := by unfold State.telemetryByte; split <;> rfl
@[simp] theorem State.telemetryByte_resp (b : Byte) : (s.telemetryByte b).resp = s.resp := by unfold State.telemetryByte; split <;> rfl
@[simp] theorem State.telemetryByte_sampleOut (b : Byte) : (s.telemetryByte b).sampleOut = s.sampleOut := by unfold State.telemetryByte; split <;> rfl
@[simp] theorem State.telemetryByte_inbox (b : Byte) : (s.telemetryByte b).inbox = s.inbox := by unfold State.telemetryByte; split <;> rfl
@[simp] theorem State.telemetryByte_pos (b : Byte) : (s.telemetryByte b).pos = s.pos := by unfold State.telemetryByte; split <;> rfl
@[simp] theorem State.telemetryByte_draws (b : Byte) : (s.telemetryByte b).draws = s.draws := by unfold State.telemetryByte; split <;> rfl
@[simp] theorem State.telemetryByte_writeDraw (b : Byte) : (s.telemetryByte b).writeDraw = s.writeDraw := by unfold State.telemetryByte; split <;> rfl

/-! ### pushBack -/

@[simp] theorem State.pushBack_par (r : List Byte) (d : Option Nat) : (s.pushBack r d).par = s.par := by unfold State.pushBack; split <;> rfl
@[simp] theorem State.pushBack_bank (r : List Byte) (d : Option Nat) : (s.pushBack r d).bank = s.bank := by unfold State.pushBack; split <;> rfl
@[simp] theorem State.pushBack_respSnap (r : List Byte) (d : Option Nat) : (s.pushBack r d).respSnap = s.respSnap := by unfold State.pushBack; split <;> rfl
@[simp] theorem State.pushBack_respPub (r : List Byte) (d : Option Nat) : (s.pushBack r d).respPub = s.respPub := by unfold State.pushBack; split <;> rfl
@[simp] theorem State.pushBack_link (r : List Byte) (d : Option Nat) : (s.pushBack r d).link = s.link := by unfold State.pushBack; split <;> rfl
@[simp] theorem State.pushBack_h2d (r : List Byte) (d : Option Nat) : (s.pushBack r d).h2d = s.h2d := by unfold State.pushBack; split <;> rfl
@[simp] theorem State.pushBack_d2h (r : List Byte) (d : Option Nat) : (s.pushBack r d).d2h = s.d2h := by unfold State.pushBack; split <;> rfl
@[simp] theorem State.pushBack_telem (r : List Byte) (d : Option Nat) : (s.pushBack r d).telem = s.telem := by unfold State.pushBack; split <;> rfl
@[simp] theorem State.pushBack_diag (r : List Byte) (d : Option Nat) : (s.pushBack r d).diag = s.diag := by unfold State.pushBack; split <;> rfl
@[simp] theorem State.pushBack_refused (r : List Byte) (d : Option Nat) : (s.pushBack r d).refused = s.refused := by unfold State.pushBack; split <;> rfl
@[simp] theorem State.pushBack_respTimer (r : List Byte) (d : Option Nat) : (s.pushBack r d).respTimer = s.respTimer := by unfold State.pushBack; split <;> rfl
@[simp] theorem State.pushBack_pollTimer (r : List Byte) (d : Option Nat) : (s.pushBack r d).pollTimer = s.pollTimer := by unfold State.pushBack; split <;> rfl
@[simp] theorem State.pushBack_devActive (r : List Byte) (d : Option Nat) : (s.pushBack r d).devActive = s.devActive := by unfold State.pushBack; split <;> rfl
@[simp] theorem State.pushBack_devShadow (r : List Byte) (d : Option Nat) : (s.pushBack r d).devShadow = s.devShadow := by unfold State.pushBack; split <;> rfl
@[simp] theorem State.pushBack_devWmask (r : List Byte) (d : Option Nat) : (s.pushBack r d).devWmask = s.devWmask := by unfold State.pushBack; split <;> rfl
@[simp] theorem State.pushBack_devRx (r : List Byte) (d : Option Nat) : (s.pushBack r d).devRx = s.devRx := by unfold State.pushBack; split <;> rfl
@[simp] theorem State.pushBack_devMode (r : List Byte) (d : Option Nat) : (s.pushBack r d).devMode = s.devMode := by unfold State.pushBack; split <;> rfl
@[simp] theorem State.pushBack_devDly (r : List Byte) (d : Option Nat) : (s.pushBack r d).devDly = s.devDly := by unfold State.pushBack; split <;> rfl
@[simp] theorem State.pushBack_devFault (r : List Byte) (d : Option Nat) : (s.pushBack r d).devFault = s.devFault := by unfold State.pushBack; split <;> rfl
@[simp] theorem State.pushBack_resp (r : List Byte) (d : Option Nat) : (s.pushBack r d).resp = s.resp := by unfold State.pushBack; split <;> rfl
@[simp] theorem State.pushBack_sampleOut (r : List Byte) (d : Option Nat) : (s.pushBack r d).sampleOut = s.sampleOut := by unfold State.pushBack; split <;> rfl
@[simp] theorem State.pushBack_pos (r : List Byte) (d : Option Nat) : (s.pushBack r d).pos = s.pos := by unfold State.pushBack; split <;> rfl
@[simp] theorem State.pushBack_draws (r : List Byte) (d : Option Nat) : (s.pushBack r d).draws = s.draws := by unfold State.pushBack; split <;> rfl
@[simp] theorem State.pushBack_writeDraw (r : List Byte) (d : Option Nat) : (s.pushBack r d).writeDraw = s.writeDraw := by unfold State.pushBack; split <;> rfl

/-! ### transmit -/

/-- A write that no draw fails: everything is appended and the operation answers OK (R232). -/
theorem State.transmit_ok (op : Byte) (ms : List (List Byte))
    (h : writeFailure s.writeDraw ms.flatten.length = none) :
    s.transmit op ms = { s with h2d := s.h2d ++ ms.flatten, resp := some ⟨.ok, .none⟩ } := by
  simp only [State.transmit, State.linkWrite, h]
  rfl

/-- A write that fails after `n` bytes: those bytes, TransmissionError, and `DEV_DESYNC` for a cut inside a message
(R213, R233). -/
theorem State.transmit_fail (op : Byte) (ms : List (List Byte)) (n : Nat)
    (h : writeFailure s.writeDraw ms.flatten.length = some n) :
    s.transmit op ms = (State.cutAt { s with h2d := s.h2d ++ ms.flatten.take n } ms n).raise op .transmissionError
      (.delivered n) := by
  simp only [State.transmit, State.linkWrite, h]

/-! ### transmit -/

@[simp] theorem State.transmit_par (op : Byte) (ms : List (List Byte)) : (s.transmit op ms).par = s.par := by
  cases h : writeFailure s.writeDraw ms.flatten.length with
  | none => rw [s.transmit_ok op ms h]
  | some n => rw [s.transmit_fail op ms n h]; simp
@[simp] theorem State.transmit_bank (op : Byte) (ms : List (List Byte)) : (s.transmit op ms).bank = s.bank := by
  cases h : writeFailure s.writeDraw ms.flatten.length with
  | none => rw [s.transmit_ok op ms h]
  | some n => rw [s.transmit_fail op ms n h]; simp
@[simp] theorem State.transmit_respSnap (op : Byte) (ms : List (List Byte)) : (s.transmit op ms).respSnap = s.respSnap := by
  cases h : writeFailure s.writeDraw ms.flatten.length with
  | none => rw [s.transmit_ok op ms h]
  | some n => rw [s.transmit_fail op ms n h]; simp
@[simp] theorem State.transmit_respPub (op : Byte) (ms : List (List Byte)) : (s.transmit op ms).respPub = s.respPub := by
  cases h : writeFailure s.writeDraw ms.flatten.length with
  | none => rw [s.transmit_ok op ms h]
  | some n => rw [s.transmit_fail op ms n h]; simp
@[simp] theorem State.transmit_link (op : Byte) (ms : List (List Byte)) : (s.transmit op ms).link = s.link := by
  cases h : writeFailure s.writeDraw ms.flatten.length with
  | none => rw [s.transmit_ok op ms h]
  | some n => rw [s.transmit_fail op ms n h]; simp
@[simp] theorem State.transmit_d2h (op : Byte) (ms : List (List Byte)) : (s.transmit op ms).d2h = s.d2h := by
  cases h : writeFailure s.writeDraw ms.flatten.length with
  | none => rw [s.transmit_ok op ms h]
  | some n => rw [s.transmit_fail op ms n h]; simp
@[simp] theorem State.transmit_telem (op : Byte) (ms : List (List Byte)) : (s.transmit op ms).telem = s.telem := by
  cases h : writeFailure s.writeDraw ms.flatten.length with
  | none => rw [s.transmit_ok op ms h]
  | some n => rw [s.transmit_fail op ms n h]; simp
@[simp] theorem State.transmit_refused (op : Byte) (ms : List (List Byte)) : (s.transmit op ms).refused = s.refused := by
  cases h : writeFailure s.writeDraw ms.flatten.length with
  | none => rw [s.transmit_ok op ms h]
  | some n => rw [s.transmit_fail op ms n h]; simp
@[simp] theorem State.transmit_respTimer (op : Byte) (ms : List (List Byte)) : (s.transmit op ms).respTimer = s.respTimer := by
  cases h : writeFailure s.writeDraw ms.flatten.length with
  | none => rw [s.transmit_ok op ms h]
  | some n => rw [s.transmit_fail op ms n h]; simp
@[simp] theorem State.transmit_pollTimer (op : Byte) (ms : List (List Byte)) : (s.transmit op ms).pollTimer = s.pollTimer := by
  cases h : writeFailure s.writeDraw ms.flatten.length with
  | none => rw [s.transmit_ok op ms h]
  | some n => rw [s.transmit_fail op ms n h]; simp
@[simp] theorem State.transmit_devActive (op : Byte) (ms : List (List Byte)) : (s.transmit op ms).devActive = s.devActive := by
  cases h : writeFailure s.writeDraw ms.flatten.length with
  | none => rw [s.transmit_ok op ms h]
  | some n => rw [s.transmit_fail op ms n h]; simp
@[simp] theorem State.transmit_devShadow (op : Byte) (ms : List (List Byte)) : (s.transmit op ms).devShadow = s.devShadow := by
  cases h : writeFailure s.writeDraw ms.flatten.length with
  | none => rw [s.transmit_ok op ms h]
  | some n => rw [s.transmit_fail op ms n h]; simp
@[simp] theorem State.transmit_devWmask (op : Byte) (ms : List (List Byte)) : (s.transmit op ms).devWmask = s.devWmask := by
  cases h : writeFailure s.writeDraw ms.flatten.length with
  | none => rw [s.transmit_ok op ms h]
  | some n => rw [s.transmit_fail op ms n h]; simp
@[simp] theorem State.transmit_devRx (op : Byte) (ms : List (List Byte)) : (s.transmit op ms).devRx = s.devRx := by
  cases h : writeFailure s.writeDraw ms.flatten.length with
  | none => rw [s.transmit_ok op ms h]
  | some n => rw [s.transmit_fail op ms n h]; simp
@[simp] theorem State.transmit_devMode (op : Byte) (ms : List (List Byte)) : (s.transmit op ms).devMode = s.devMode := by
  cases h : writeFailure s.writeDraw ms.flatten.length with
  | none => rw [s.transmit_ok op ms h]
  | some n => rw [s.transmit_fail op ms n h]; simp
@[simp] theorem State.transmit_devDly (op : Byte) (ms : List (List Byte)) : (s.transmit op ms).devDly = s.devDly := by
  cases h : writeFailure s.writeDraw ms.flatten.length with
  | none => rw [s.transmit_ok op ms h]
  | some n => rw [s.transmit_fail op ms n h]; simp
@[simp] theorem State.transmit_sampleOut (op : Byte) (ms : List (List Byte)) : (s.transmit op ms).sampleOut = s.sampleOut := by
  cases h : writeFailure s.writeDraw ms.flatten.length with
  | none => rw [s.transmit_ok op ms h]
  | some n => rw [s.transmit_fail op ms n h]; simp
@[simp] theorem State.transmit_inbox (op : Byte) (ms : List (List Byte)) : (s.transmit op ms).inbox = s.inbox := by
  cases h : writeFailure s.writeDraw ms.flatten.length with
  | none => rw [s.transmit_ok op ms h]
  | some n => rw [s.transmit_fail op ms n h]; simp
@[simp] theorem State.transmit_pos (op : Byte) (ms : List (List Byte)) : (s.transmit op ms).pos = s.pos := by
  cases h : writeFailure s.writeDraw ms.flatten.length with
  | none => rw [s.transmit_ok op ms h]
  | some n => rw [s.transmit_fail op ms n h]; simp
@[simp] theorem State.transmit_draws (op : Byte) (ms : List (List Byte)) : (s.transmit op ms).draws = s.draws := by
  cases h : writeFailure s.writeDraw ms.flatten.length with
  | none => rw [s.transmit_ok op ms h]
  | some n => rw [s.transmit_fail op ms n h]; simp
@[simp] theorem State.transmit_writeDraw (op : Byte) (ms : List (List Byte)) : (s.transmit op ms).writeDraw = s.writeDraw := by
  cases h : writeFailure s.writeDraw ms.flatten.length with
  | none => rw [s.transmit_ok op ms h]
  | some n => rw [s.transmit_fail op ms n h]; simp

end Sys2Proof.Machine
end

