-- ==== Sys2Proof/Laws/Words.lean ====
section
/-! SUPPORT. Lengths and entries of the lists the state is made of, and the byte orders. -/

namespace Sys2Proof

@[simp] theorem Biquad.words_length (b : Biquad) : b.words.length = 5 := rfl

theorem startsFrame_iff (b : Byte) : startsFrame b = true ↔ 1 ≤ b.toNat ∧ b.toNat ≤ 15 := by
  rw [startsFrame, Bool.and_eq_true, decide_eq_true_iff, decide_eq_true_iff]

theorem wordFinite_iff (w : Word) : wordFinite w = true ↔ w.extractLsb' 23 8 ≠ 0xFF#8 := by
  rw [wordFinite, decide_eq_true_iff]
  simp [exponent, BitVec.toNat_eq]

theorem frameLegal_iff (p : Params) (si : Byte) (data : List Word) :
    frameLegal p si data = true ↔ 1 ≤ data.length ∧ data.length ≤ 15 ∧ si.toNat + data.length ≤ p.NF := by
  simp [frameLegal, Config.maxPc, and_assoc]

@[simp] theorem le32_length (w : Word) : (le32 w).length = 4 := rfl

@[simp] theorem be32_length (w : Word) : (be32 w).length = 4 := rfl

@[simp] theorem bytesOf_nil : bytesOf [] = [] := rfl

@[simp] theorem bytesOf_cons (w : Word) (ws : List Word) : bytesOf (w :: ws) = le32 w ++ bytesOf ws := rfl

@[simp] theorem bytesOf_length (ws : List Word) : (bytesOf ws).length = 4 * ws.length := by
  induction ws with
  | nil => rfl
  | cons w ws ih => simp [ih]; omega

@[simp] theorem wordsOf_length : (d : List Byte) → (wordsOf d).length = d.length / 4
  | [] => by simp [wordsOf]
  | [_] => by simp [wordsOf]
  | [_, _] => by simp [wordsOf]
  | [_, _, _] => by simp [wordsOf]
  | _ :: _ :: _ :: _ :: d => by
    simp only [wordsOf, List.length_cons, wordsOf_length d]
    omega

/-- The bytes of a word, put together again, are the word (R64, for both orders: `le32` and `be32` hold the same bytes). -/
theorem unle32_bytes (w : Word) :
    unle32 (w.extractLsb' 0 8) (w.extractLsb' 8 8) (w.extractLsb' 16 8) (w.extractLsb' 24 8) = w := by
  apply BitVec.eq_of_getLsbD_eq
  intro i hi
  simp only [unle32, BitVec.getLsbD_append, BitVec.getLsbD_extractLsb']
  by_cases h1 : i < 8
  · simp [h1]
  · by_cases h2 : i < 16
    · simp [h1, show i - 8 < 8 by omega, show 8 + (i - 8) = i by omega]
    · by_cases h3 : i < 24
      · simp [h1, show ¬i - 8 < 8 by omega, show i - 8 - 8 < 8 by omega, show 16 + (i - 8 - 8) = i by omega]
      · simp [h1, show ¬i - 8 < 8 by omega, show ¬i - 8 - 8 < 8 by omega, show i - 8 - 8 - 8 < 8 by omega,
          show 24 + (i - 8 - 8 - 8) = i by omega]

@[simp] theorem flatten_nil : flatten [] = [] := rfl

@[simp] theorem flatten_cons (b : Biquad) (bs : List Biquad) : flatten (b :: bs) = b.words ++ flatten bs := rfl

@[simp] theorem flatten_length (bank : List Biquad) : (flatten bank).length = 5 * bank.length := by
  induction bank with
  | nil => rfl
  | cons b bs ih => simp [ih]; omega

@[simp] theorem devWords_length (bank : List Biquad) : (devWords bank).length = 5 * bank.length := by
  simp [devWords]

theorem sectionsOf_flatten (bank : List Biquad) : sectionsOf (flatten bank) = bank := by
  induction bank with
  | nil => rfl
  | cons b bs ih => simp [Biquad.words, sectionsOf, ih]

@[simp] theorem putFrom_length {α : Type} (l : List α) (i : Nat) (vs : List α) : (putFrom l i vs).length = l.length := by
  induction vs generalizing l i with
  | nil => rfl
  | cons v vs ih => simp [putFrom, ih]

/-- Where `putFrom` writes, it writes the values in order, and it leaves every other entry (R207). -/
theorem putFrom_getElem? {α : Type} (l : List α) (i : Nat) (vs : List α) (j : Nat) (h : i + vs.length ≤ l.length) :
    (putFrom l i vs)[j]? = if i ≤ j ∧ j < i + vs.length then vs[j - i]? else l[j]? := by
  induction vs generalizing l i with
  | nil =>
    rw [if_neg (by simp)]
    rfl
  | cons v vs ih =>
    simp only [List.length_cons] at h ⊢
    rw [putFrom, ih (l.set i v) (i + 1) (by simp; omega), List.getElem?_set]
    by_cases hj : i = j
    · subst hj
      simp [show i < l.length by omega]
    · by_cases hk : i + 1 ≤ j ∧ j < i + 1 + vs.length
      · rw [if_pos hk, if_pos (by omega), show j - i = (j - (i + 1)) + 1 by omega, List.getElem?_cons_succ]
      · rw [if_neg hk, if_neg hj, if_neg (by omega)]

namespace Machine

@[simp] theorem freeWords_length (base n : Nat) : (freeWords base n).length = n := by simp [freeWords]

@[simp] theorem activeAtReset_length (p : Params) (base : Nat) : (activeAtReset p base).length = p.NF := by
  unfold activeAtReset
  split <;> simp

@[simp] theorem bankAtReset_length (p : Params) : (bankAtReset p).length = p.N := by simp [bankAtReset]

@[simp] theorem allZeroResponse_length (p : Params) : (allZeroResponse p).length = p.P := by simp [allZeroResponse]

end Machine
end Sys2Proof
end

