-- ==== Sys2Proof/Laws/Exec.lean ====
section
/-! SUPPORT. What every operation can do, said once. -/

namespace Sys2Proof.Machine

/-- No operation stops the machine: statuses, device faults and refusals are states (R10). -/
theorem exec_answers (i : Instr) (s : State) : ∃ t, exec i s = .next t := by
  cases i <;> exact ⟨_, rfl⟩

theorem decodeBiquad_ok {mk : Biquad → Instr} {bs rest : List Byte} {i : Instr}
    (h : decodeBiquad mk bs = .ok i rest) : ∃ b, i = mk b := by
  unfold decodeBiquad at h
  split at h
  · cases h; exact ⟨_, rfl⟩
  · cases h

theorem decodeGetSection_ok {bs rest : List Byte} {i : Instr} (h : decodeGetSection bs = .ok i rest) :
    ∃ idx, i = .getSection idx := by
  unfold decodeGetSection at h
  split at h
  · cases h; exact ⟨_, rfl⟩
  · cases h

theorem decodeSetSection_ok {bs rest : List Byte} {i : Instr} (h : decodeSetSection bs = .ok i rest) :
    ∃ idx ws, i = .setSection idx ws := by
  unfold decodeSetSection at h
  split at h
  · split at h
    · cases h; exact ⟨_, _, rfl⟩
    · cases h
  · cases h

theorem decodeLinkOpen_ok {bs rest : List Byte} {i : Instr} (h : decodeLinkOpen bs = .ok i rest) :
    ∃ port, i = .linkOpen port := by
  unfold decodeLinkOpen at h
  split at h
  · split at h
    · cases h; exact ⟨_, rfl⟩
    · cases h
  · cases h

/-- The command port's decoder gives commands only (R82). -/
theorem decodeCommand_channel {bs rest : List Byte} {i : Instr} (h : decodeCommand bs = .ok i rest) :
    i.channel = .command := by
  match bs with
  | [] => cases h
  | op :: bs =>
    unfold decodeCommand at h
    dsimp only at h
    split at h
    · cases h; rfl
    · obtain ⟨_, rfl⟩ := decodeGetSection_ok h; rfl
    · obtain ⟨_, _, rfl⟩ := decodeSetSection_ok h; rfl
    · obtain ⟨_, rfl⟩ := decodeBiquad_ok h; rfl
    · obtain ⟨_, rfl⟩ := decodeBiquad_ok h; rfl
    · cases h; rfl
    · cases h; rfl
    · obtain ⟨_, rfl⟩ := decodeLinkOpen_ok h; rfl
    · cases h; rfl
    · cases h; rfl
    · cases h; rfl
    · cases h; rfl
    · cases h

/-- What no command touches: the parameters, the device but for its fault record (R213, R265), and the model's own
sequencing. -/
structure SameDevice (s t : State) : Prop where
  par : t.par = s.par
  devActive : t.devActive = s.devActive
  devShadow : t.devShadow = s.devShadow
  devWmask : t.devWmask = s.devWmask
  devRx : t.devRx = s.devRx
  devMode : t.devMode = s.devMode
  devDly : t.devDly = s.devDly
  sampleOut : t.sampleOut = s.sampleOut
  inbox : t.inbox = s.inbox
  pos : t.pos = s.pos
  draws : t.draws = s.draws
  writeDraw : t.writeDraw = s.writeDraw

theorem SameDevice.answer (s : State) (r : Results) : SameDevice s (s.answer r) := by
  constructor <;> rfl

theorem SameDevice.raise (s : State) (op : Byte) (k : Status) (d : Detail) : SameDevice s (s.raise op k d) := by
  constructor <;> rfl

theorem SameDevice.refuse (s : State) (n : RefusalName) : SameDevice s (s.refuse n) := by
  constructor <;> rfl

theorem SameDevice.transmit (s : State) (op : Byte) (ms : List (List Byte)) : SameDevice s (s.transmit op ms) := by
  constructor <;> simp

theorem SameDevice.releaseLink (s : State) : SameDevice s s.releaseLink := by
  constructor <;> simp

/-- R265: the host's operations leave the device alone. -/
theorem exec_command_sameDevice {i : Instr} {s t : State} (hi : i.channel = .command) (h : exec i s = .next t) :
    SameDevice s t := by
  cases i
  case sectionCount => cases h; exact .answer s _
  case getSection idx =>
    cases h; split
    · exact .raise s _ _ _
    · exact .answer s _
  case setSection idx ws =>
    cases h; split
    · exact .raise s _ _ _
    · split
      · split
        · exact .raise s _ _ _
        · constructor <;> rfl
      · exact .raise s _ _ _
  case toDevice => cases h; exact .answer s _
  case toPreview => cases h; exact .answer s _
  case upload =>
    cases h; split
    · exact .raise s _ _ _
    · exact .transmit s _ _
  case sendAutoeq =>
    cases h; split
    · exact .refuse s _
    · split
      · exact .raise s _ _ _
      · exact .transmit s _ _
  case linkOpen port =>
    cases h; split
    · constructor <;> simp
    · constructor <;> simp
  case linkClose => cases h; constructor <;> rfl
  case readAvailable =>
    cases h; split
    · exact .raise s _ _ _
    · constructor <;> rfl
  case tickResponse =>
    cases h; split
    · constructor <;> rfl
    · constructor <;> rfl
  case tickPoll =>
    cases h; split
    · constructor <;> rfl
    · constructor <;> rfl
  all_goals cases hi

end Sys2Proof.Machine
end

