-- ==== Sys2Proof/Laws/PerInstr.lean ====
section
/-! SUPPORT. One statement per operation about its syntax. -/

namespace Sys2Proof.Laws.Opcodes

/-- R80, R82, R92: an operation is a command exactly when R82's table gives it an opcode, and that byte then leads its
encoding, whatever the operands and the instance. -/
def Statement (i : Instr) : Prop :=
  (i.channel = .command ↔ i.opcode.isSome = true) ∧
    ∀ (p : Params) (op : Byte), i.opcode = some op → ∃ operands, encode p i = some (op :: operands)

theorem sectionCount : Statement .sectionCount :=
  ⟨by simp [Instr.channel, Instr.opcode], fun _ _ h => by cases h; exact ⟨_, rfl⟩⟩

theorem getSection (idx : Byte) : Statement (.getSection idx) :=
  ⟨by simp [Instr.channel, Instr.opcode], fun _ _ h => by cases h; exact ⟨_, rfl⟩⟩

theorem setSection (idx : Byte) (ws : List Word) : Statement (.setSection idx ws) :=
  ⟨by simp [Instr.channel, Instr.opcode], fun _ _ h => by cases h; exact ⟨_, rfl⟩⟩

theorem toDevice (sec : Biquad) : Statement (.toDevice sec) :=
  ⟨by simp [Instr.channel, Instr.opcode], fun _ _ h => by cases h; exact ⟨_, rfl⟩⟩

theorem toPreview (sec : Biquad) : Statement (.toPreview sec) :=
  ⟨by simp [Instr.channel, Instr.opcode], fun _ _ h => by cases h; exact ⟨_, rfl⟩⟩

theorem upload : Statement .upload :=
  ⟨by simp [Instr.channel, Instr.opcode], fun _ _ h => by cases h; exact ⟨_, rfl⟩⟩

theorem sendAutoeq : Statement .sendAutoeq :=
  ⟨by simp [Instr.channel, Instr.opcode], fun _ _ h => by cases h; exact ⟨_, rfl⟩⟩

theorem linkOpen (port : Port) : Statement (.linkOpen port) :=
  ⟨by simp [Instr.channel, Instr.opcode], fun _ _ h => by cases h; exact ⟨_, rfl⟩⟩

theorem linkClose : Statement .linkClose :=
  ⟨by simp [Instr.channel, Instr.opcode], fun _ _ h => by cases h; exact ⟨_, rfl⟩⟩

theorem readAvailable : Statement .readAvailable :=
  ⟨by simp [Instr.channel, Instr.opcode], fun _ _ h => by cases h; exact ⟨_, rfl⟩⟩

theorem tickResponse : Statement .tickResponse :=
  ⟨by simp [Instr.channel, Instr.opcode], fun _ _ h => by cases h; exact ⟨_, rfl⟩⟩

theorem tickPoll : Statement .tickPoll :=
  ⟨by simp [Instr.channel, Instr.opcode], fun _ _ h => by cases h; exact ⟨_, rfl⟩⟩

theorem fragMore (si : Byte) (data : List Word) : Statement (.fragMore si data) :=
  ⟨by simp [Instr.channel, Instr.opcode], fun _ _ h => nomatch h⟩

theorem fragFinal (si : Byte) (data : List Word) : Statement (.fragFinal si data) :=
  ⟨by simp [Instr.channel, Instr.opcode], fun _ _ h => nomatch h⟩

theorem autoeqCmd : Statement .autoeqCmd :=
  ⟨by simp [Instr.channel, Instr.opcode], fun _ _ h => nomatch h⟩

theorem sample (x : Number) : Statement (.sample x) :=
  ⟨by simp [Instr.channel, Instr.opcode], fun _ _ h => nomatch h⟩

end Sys2Proof.Laws.Opcodes
end

