-- ==== Sys2Proof/Tests/Slice0.lean ====
section
/-! SUPPORT. The model's own tests: ill-formed terms, words written out from the spec's encodings, vectors of
95_test_vectors.md one operation at a time, and a witness for the hypotheses of every statement. -/

namespace Sys2Proof.Tests

open Sys2Proof.Machine

/-! ## States and sections of 95_test_vectors.md -/

/-- TP's parameters. -/
def tp : Params := Params.testProfile

/-- TP with an `AUTOEQ_SEQ` of a hundred `FF`. -/
def tpSeq : Params := { tp with autoeqSeq := some (List.replicate 100 0xFF) }

/-- TP with an `AUTOEQ_SEQ` of two bytes and of one. -/
def tpSeq2 : Params := { tp with autoeqSeq := some [0xFF, 0xFE] }
def tpSeq1 : Params := { tp with autoeqSeq := some [0xFF] }

/-- TP with the device resetting to the identity bank's device words. -/
def tpDev : Params := { tp with devResetBank := some (devWords (List.replicate 4 Biquad.identity)) }

def com3 : Port := [0x43, 0x4F, 0x4D, 0x33]
def com9 : Port := [0x43, 0x4F, 0x4D, 0x39]

/-- The start state of the vectors, and the same with the link open. -/
def s0 : State := State.resetOf tp
def opened : State := { s0 with link := .opened com3 }

/-- The section `LS`, `HP`, and two whose response is no number somewhere (PV-6, PV-9). -/
def LS : Biquad := ⟨0x3F000000, 0x3F800000, 0x3F000000, 0xBFE66666, 0x3F51EB85⟩
def HP : Biquad := ⟨0x3F800000, 0, 0, 0xBF000000, 0⟩
def poleAtOne : Biquad := ⟨0x3F800000, 0, 0, 0xC0000000, 0x3F800000⟩
def zeroAtOne : Biquad := ⟨0x3F800000, 0xC0000000, 0x3F800000, 0, 0⟩

/-- The state an outcome gives, or the state before where it gives none. -/
def after (i : Instr) (s : State) : State :=
  match exec i s with
  | .next t => t
  | _ => s

def afterStep (s : State) : State :=
  match step s with
  | .next t => t
  | _ => s

/-! ## Well-formedness: each check refuses an ill-formed term, and takes the last legal one -/

theorem test_wf_setSection : (Instr.setSection 0 (List.replicate 256 0)).wellFormed tp = false ∧
    (Instr.setSection 0 (List.replicate 255 0)).wellFormed tp = true := by decide +kernel

theorem test_wf_linkOpen : (Instr.linkOpen (List.replicate 256 0)).wellFormed tp = false ∧
    (Instr.linkOpen (List.replicate 255 0)).wellFormed tp = true := by decide +kernel

theorem test_wf_fragMore_empty : (Instr.fragMore 0 []).wellFormed tp = false := by decide

theorem test_wf_fragMore_sixteen : (Instr.fragMore 0 (List.replicate 16 0)).wellFormed tp = false ∧
    (Instr.fragMore 5 (List.replicate 15 0)).wellFormed tp = true := by decide

theorem test_wf_fragMore_past_the_end : (Instr.fragMore 6 (List.replicate 15 0)).wellFormed tp = false := by decide

theorem test_wf_fragFinal_empty : (Instr.fragFinal 0 []).wellFormed tp = false := by decide

theorem test_wf_fragFinal_sixteen : (Instr.fragFinal 0 (List.replicate 16 0)).wellFormed tp = false := by decide

theorem test_wf_fragFinal_past_the_end : (Instr.fragFinal 20 [0]).wellFormed tp = false ∧
    (Instr.fragFinal 19 [0]).wellFormed tp = true := by decide

theorem test_wf_autoeqCmd : Instr.autoeqCmd.wellFormed tp = false ∧ Instr.autoeqCmd.wellFormed tpSeq = true := by
  decide

theorem test_params_valid : tp.Standard ∧ tpSeq.Valid ∧ tpSeq2.Valid ∧ tpSeq1.Valid ∧ tpDev.Valid := by decide

/-- R6's bounds, each just passed: a first byte that starts a frame, equal terminators, `NF > 256`, `CHUNK > MAX_PC`, a
reset bank of the wrong length. -/
theorem test_params_invalid : ∀ p ∈ [{ tp with autoeqSeq := some [0x0F] }, { tp with autoeqSeq := some [] },
    { tp with termFinal := 0x00 }, { tp with N := 52 }, { tp with N := 0 }, { tp with chunk := 16 },
    { tp with fsPreview := 1 }, { tp with devResetBank := some [0] }], ¬p.Valid := by decide

/-! ## Decoding words written out from R82, R85, R90 -/

theorem test_decode_sectionCount : decodeCommand [0x01] = .ok .sectionCount [] := by decide
theorem test_decode_getSection : decodeCommand [0x02, 0xFF] = .ok (.getSection 255) [] := by decide

/-- P2's fourth line: four words, the last -0.5. -/
theorem test_decode_setSection_four_words : decodeCommand
    [0x03, 0x01, 0x04, 0x3F, 0x80, 0x00, 0x00, 0x00, 0x00, 0x00, 0x00, 0x00, 0x00, 0x00, 0x00, 0xBF, 0x00, 0x00, 0x00] =
      .ok (.setSection 1 [0x3F800000, 0, 0, 0xBF000000]) [] := by decide

theorem test_decode_toDevice : decodeCommand
    [0x04, 0x3F, 0x00, 0x00, 0x00, 0x3F, 0x80, 0x00, 0x00, 0x3F, 0x00, 0x00, 0x00, 0xBF, 0xE6, 0x66, 0x66,
      0x3F, 0x51, 0xEB, 0x85] = .ok (.toDevice LS) [] := by decide

theorem test_decode_toPreview : decodeCommand
    [0x05, 0x3F, 0x80, 0x00, 0x00, 0x00, 0x00, 0x00, 0x00, 0x00, 0x00, 0x00, 0x00, 0xBF, 0x00, 0x00, 0x00,
      0x00, 0x00, 0x00, 0x00] = .ok (.toPreview HP) [] := by decide

theorem test_decode_upload : decodeCommand [0x10] = .ok .upload [] := by decide
theorem test_decode_sendAutoeq : decodeCommand [0x11] = .ok .sendAutoeq [] := by decide
theorem test_decode_linkOpen : decodeCommand [0x20, 0x04, 0x43, 0x4F, 0x4D, 0x33] = .ok (.linkOpen com3) [] := by
  decide
theorem test_decode_linkClose : decodeCommand [0x21] = .ok .linkClose [] := by decide
theorem test_decode_readAvailable : decodeCommand [0x22] = .ok .readAvailable [] := by decide
theorem test_decode_tickResponse : decodeCommand [0x30] = .ok .tickResponse [] := by decide
theorem test_decode_tickPoll : decodeCommand [0x31, 0x30] = .ok .tickPoll [0x30] := by decide

/-- RX-6 and RX-5, the frames of one float. -/
theorem test_decode_fragMore : decodeLink tp [0x01, 0x03, 0x00, 0x00, 0x00, 0x40, 0x00] =
    .ok (.fragMore 3 [0x40000000]) [] := by decide
theorem test_decode_fragFinal : decodeLink tp [0x01, 0x13, 0x66, 0x66, 0xE6, 0xBF, 0x01] =
    .ok (.fragFinal 19 [0xBFE66666]) [] := by decide
theorem test_decode_autoeqCmd : decodeLink tpSeq2 [0xFF, 0xFE, 0x01] = .ok .autoeqCmd [0x01] := by decide
theorem test_decode_sample : decode tp .datapath [0x01] = .reject .noEncoding := by decide

/-- ER-1, ER-2. -/
theorem test_decode_reserved : decodeCommand [0x06] = .reject (.reservedOpcode 0x06) ∧
    decodeCommand [0x00] = .reject (.reservedOpcode 0x00) ∧ decodeCommand [0xFF] = .reject (.reservedOpcode 0xFF) := by
  decide

/-- RX-1 to RX-4, RX-7, RX-11. -/
theorem test_decode_malformed : decodeLink tp [0x00] = .reject (.badFirstByte 0x00) ∧
    decodeLink tp [0x10] = .reject (.badFirstByte 0x10) ∧ decodeLink tp [0xFF] = .reject (.badFirstByte 0xFF) ∧
    decodeLink tp [0x0A, 0x0B] = .reject (.badStartIndex 0x0B) ∧
    decodeLink tp [0x01, 0x00, 0x00, 0x00, 0x80, 0x3F, 0x02] = .reject (.badTerminator 0x02) ∧
    decodeLink tpSeq2 [0xFF, 0x00] = .reject .brokenAutoeq := by decide

theorem test_lengthPrefix : takeLength (lengthPrefix 254 ++ [0xFF]) = some (254, [0xFF]) ∧
    takeLength (lengthPrefix 255 ++ [0x01]) = some (255, [0x01]) ∧ takeLength (lengthPrefix 600) = some (600, []) := by
  decide

/-! ## Numbers (R8, the table of 95_test_vectors.md) -/

theorem test_le32 : le32 0xBFE66666 = [0x66, 0x66, 0xE6, 0xBF] ∧ le32 0x3F51EB85 = [0x85, 0xEB, 0x51, 0x3F] := by
  decide

theorem test_val : val 0x3F800000 = 1 ∧ val 0x80000000 = 0 ∧ val 0xBF000000 = -1 / 2 ∧ val 0xC0000000 = -2 ∧
    val 0x00000001 = 1 / 2 ^ 149 := by decide +kernel

theorem test_wordOfRat : wordOfRat (-9 / 5) = 0xBFE66666 ∧ wordOfRat (41 / 50) = 0x3F51EB85 ∧
    wordOfRat (1 / 2 ^ 149) = 0x00000001 ∧ wordOfRat (2 ^ 128) = 0x7F800000 := by decide +kernel

/-! ## Bank -/

theorem test_sectionCount_BK1 : (after .sectionCount s0).resp = some ⟨.ok, .count 4⟩ := by decide

theorem test_getSection_BK2 : (after (.getSection 0) s0).resp = some ⟨.ok, .words [0x3F800000, 0, 0, 0, 0]⟩ := by
  decide

theorem test_getSection_BK3 : (after (.getSection 4) s0).diag = [⟨0x02, .indexRangeError, .idx 4⟩] ∧
    ((after (.getSection 4) s0).resp.map Response.statusByte) = some 0x06 := by decide

theorem test_setSection_BK8 : (after (.setSection 2 [0x3F800000, 0, 0x7FC00000, 0x7F800000, 0]) s0).diag =
    [⟨0x03, .validationError, .word 2⟩] ∧
    (after (.setSection 2 [0x3F800000, 0, 0x7FC00000, 0x7F800000, 0]) s0).bank = s0.bank := by decide

theorem test_setSection_BK9_BK10 : (after (.setSection 9 [0x3F800000, 0, 0]) s0).diag = [⟨0x03, .indexRangeError, .idx 9⟩] ∧
    (after (.setSection 3 [1, 0x80000000, 0, 0, 0]) s0).bank[3]? = some ⟨1, 0x80000000, 0, 0, 0⟩ := by decide

/-! ## Sign-convention unit -/

theorem test_toDevice_SA3 : (after (.toDevice LS) s0).resp =
    some ⟨.ok, .words [0x3F000000, 0x3F800000, 0x3F000000, 0x3FE66666, 0xBF51EB85]⟩ := by decide

theorem test_toDevice_SA4 : (after (.toDevice ⟨0x7FC00000, 0x7F800000, 0, 0x7FC00001, 0xFF800000⟩) s0).resp =
    some ⟨.ok, .words [0x7FC00000, 0x7F800000, 0, 0xFFC00001, 0x7F800000]⟩ := by decide

theorem test_toPreview_SA5 : (after (.toPreview ⟨0x7FC00000, 0x80000000, 0, 0xBFE66666, 0x3F51EB85⟩) s0).resp =
    some ⟨.ok, .words [0x7FC00000, 0x80000000, 0, 0xBFE66666, 0x3F51EB85]⟩ := by decide

/-! ## Preview, on grids of a few points -/

/-- PV-13: `FS_PREVIEW = 3` gives one point. -/
theorem test_tickResponse_PV13 : (after .tickResponse (State.resetOf { tp with fsPreview := 3 })).respPub =
    some [⟨some (.rat 0), .rat 0⟩] := by decide +kernel

/-- PV-6, PV-9: a zero denominator is the failure response; a zero numerator is `NEG_INF` at its own point only. -/
theorem test_tickResponse_PV6_PV9 :
    (after .tickResponse { State.resetOf { tp with fsPreview := 4 } with bank := [poleAtOne, Biquad.identity] }).respPub =
      some [⟨some (.rat 0), .rat 0⟩, ⟨some (.rat 0), .rat 0⟩] ∧
    (after .tickResponse { State.resetOf { tp with fsPreview := 4 } with bank := [zeroAtOne, Biquad.identity] }).respPub =
      some [⟨none, .rat 0⟩, ⟨some (.magDb [⟨1, -2, 1, 0, 0⟩] 1 2), .phaseDeg [⟨1, -2, 1, 0, 0⟩] 1 2⟩] := by decide +kernel

/-! ## Packetizer -/

/-- PK-1's frames. -/
def idBytes : List Byte :=
  [0x00, 0x00, 0x80, 0x3F, 0x00, 0x00, 0x00, 0x00, 0x00, 0x00, 0x00, 0x00, 0x00, 0x00, 0x00, 0x80, 0x00, 0x00, 0x00, 0x80]

theorem test_upload_PK1 : (after .upload opened).h2d =
    [0x0A, 0x00] ++ idBytes ++ idBytes ++ [0x00] ++ [0x0A, 0x0A] ++ idBytes ++ idBytes ++ [0x01] := by decide

/-- PK-7: a cut inside frame 0. -/
theorem test_upload_PK7 : (after .upload { opened with writeDraw := some 20 }).devFault = [.desync] ∧
    (after .upload { opened with writeDraw := some 20 }).h2d = [0x0A, 0x00] ++ idBytes.take 18 ∧
    (after .upload { opened with writeDraw := some 20 }).diag = [⟨0x10, .transmissionError, .delivered 20⟩] := by
  decide

/-- PK-9. -/
theorem test_plan_PK9 : (List.range (fragmentCount { tp with N := 8, chunk := 15 })).map
      (fun k => (fragmentLength { tp with N := 8, chunk := 15 } k, fragmentStart { tp with N := 8, chunk := 15 } k)) =
    [(15, 0), (15, 15), (10, 30)] := by decide

theorem test_sendAutoeq_AE1 : (after .sendAutoeq { State.resetOf tpSeq with link := .opened com3 }).h2d =
    List.replicate 100 0xFF := by decide

/-- AE-2, ER-3: the refusal comes before the closed link. -/
theorem test_sendAutoeq_ER3 : (after .sendAutoeq s0).refused = [.autoeqUnspecified] ∧ (after .sendAutoeq s0).diag = [] ∧
    (after .sendAutoeq s0).resp = none := by decide

/-! ## Link port -/

theorem test_linkOpen_LK1 : (after (.linkOpen com3) s0).link = .opened com3 ∧ (after (.linkOpen com3) s0).h2d = [] := by
  decide

theorem test_linkOpen_LK3 : (after (.linkOpen com9) { opened with d2h := [0x41] }).link = .closed ∧
    (after (.linkOpen com9) { opened with d2h := [0x41] }).d2h = [] ∧
    (after (.linkOpen com9) { opened with d2h := [0x41] }).diag = [⟨0x20, .linkUnavailableError, .port com9⟩] := by
  decide

theorem test_linkClose_LK8 : (after .linkClose { opened with h2d := [0x0A], d2h := [0x21] }).h2d = [0x0A] ∧
    (after .linkClose { opened with h2d := [0x0A], d2h := [0x21] }).d2h = [] := by decide

theorem test_readAvailable_LK4 : (after .readAvailable { opened with d2h := [0x4F, 0x4B] }).resp =
    some ⟨.ok, .bytes [0x4F, 0x4B]⟩ ∧ (after .readAvailable { opened with d2h := [0x4F, 0x4B] }).d2h = [] := by decide

theorem test_readAvailable_LK5 : (after .readAvailable s0).resp = some ⟨.linkUnavailableError, .none⟩ := by decide

theorem test_tickPoll_P3 : (after .tickPoll { opened with telem := [0x4F], d2h := [0x4B] }).telem = [0x4F, 0x4B] := by
  decide

/-- R260: each tick reschedules its own timer, a poll with the link closed too. -/
theorem test_ticks_reschedule : (after .tickPoll s0).pollTimer = .rescheduled ∧
    (after .tickPoll s0).respTimer = .firstTickPending ∧
    (after .tickResponse { s0 with respSnap := some (flatten s0.bank) }).respTimer = .rescheduled ∧
    (after .tickResponse { s0 with respSnap := some (flatten s0.bank) }).pollTimer = .firstTickPending := by decide

theorem test_tickPoll_LK7 : (after .tickPoll s0).resp = some ⟨.ok, .none⟩ ∧ (after .tickPoll s0).telem = [] := by
  decide

/-! ## Device -/

theorem test_fragMore_RX6 : (after (.fragMore 3 [0x40000000]) s0).devShadow[3]? = some 0x40000000 ∧
    (after (.fragMore 3 [0x40000000]) s0).devWmask[3]? = some true ∧
    (after (.fragMore 3 [0x40000000]) s0).devWmask[4]? = some false := by decide

theorem test_fragFinal_RX5 : (after (.fragFinal 19 [0x3F800000]) s0).devActive[19]? = some 0x3F800000 ∧
    (after (.fragFinal 19 [0x3F800000]) s0).devWmask = List.replicate 20 false ∧
    (after (.fragFinal 19 [0x3F800000]) s0).devRx = .idle := by decide

/-- RX-13: the commit leaves auto-EQ mode where `COMMIT_EXITS_AUTOEQ` says so, and stays in it where it does not (RX-12). -/
theorem test_fragFinal_RX13 :
    (after (.fragFinal 0 [0]) { s0 with par := { tp with commitExitsAutoeq := true }, devMode := .autoeq }).devMode = .normal ∧
    (after (.fragFinal 0 [0]) { s0 with devMode := .autoeq }).devMode = .autoeq := by decide

theorem test_autoeqCmd_AE1 : (after .autoeqCmd s0).devMode = .autoeq := by decide

/-- RX-7 at its last byte: nothing is buffered. -/
theorem test_receiver_RX7 :
    (afterStep { s0 with
      inbox := [.devRx], h2d := [0x02], devRx := .awaitTerm 1 0 [0x00, 0x00, 0x80, 0x3F] }).devFault = [.desync] ∧
    (afterStep { s0 with
      inbox := [.devRx], h2d := [0x02], devRx := .awaitTerm 1 0 [0x00, 0x00, 0x80, 0x3F] }).devWmask[0]? = some false := by
  decide

/-- RX-4 at its second byte, and the greatest start index that is taken. -/
theorem test_receiver_RX4 :
    (afterStep { s0 with inbox := [.devRx], h2d := [0x0B], devRx := .gotPc 10 }).devFault = [.desync] ∧
    (afterStep { s0 with inbox := [.devRx], h2d := [0x0A], devRx := .gotPc 10 }).devRx = .data 10 0x0A [] := by decide

/-- P1's committed bank. -/
def ls4 : State := State.resetOf
  { tp with devResetBank := some (devWords (LS :: List.replicate 3 Biquad.identity)) }

theorem test_sample_SM4_second :
    (after (.sample (.ofRat 0)) (after (.sample (.ofRat 1)) ls4)).sampleOut = some (.ofRat (15938355 / 8388608)) := by
  decide +kernel

/-- SM-1 with an unknown real input `ρ 0` in place of 1: the outputs are it, then half of it. -/
theorem test_sample_SM1_unknown :
    (after (.sample .zero) (after (.sample (.unknown 0))
      (State.resetOf { tp with devResetBank := some (devWords (HP :: List.replicate 3 Biquad.identity)) }))).sampleOut =
        some ⟨0, [1 / 2]⟩ := by decide +kernel

/-- A reserved opcode at the port (ER-1), and bytes that end inside a transaction (log entry 13). -/
theorem test_step_ER1 : (afterStep { s0 with inbox := [.command [0x06] none] }).refused = [.reservedOpcode] ∧
    (afterStep { s0 with inbox := [.command [0x06] none] }).bank = s0.bank := by decide

/-- EX-6: row 2 of four tokens is skipped and reported by the importer. -/
theorem test_importBank_EX6 :
    (Pseudo.importBank (.read [LS.words, HP.words, [0x3F800000, 0, 0, 0], [0x40000000, 0, 0, 0, 0]])).expand tp =
      [.setSection 0 LS.words, .setSection 1 HP.words, .setSection 3 [0x40000000, 0, 0, 0, 0]] ∧
    (Pseudo.importBank (.read [LS.words, HP.words, [0x3F800000, 0, 0, 0], [0x40000000, 0, 0, 0, 0]])).reports =
      [.rowMismatchError] := by decide

theorem test_fetch : decodeTableWord 8 0x31 = some .tickPoll ∧ decodeTableWord 24 0x040003 =
    some (.setSection 0 [0, 0, 0, 0]) ∧ decodeTableWord 8 0x06 = none := by decide

/-! ## Witnesses: states and operands that meet each statement's hypotheses -/

/-- An identity section, and the bank of them. -/
abbrev ID : Biquad := Biquad.identity
def idBank : List Biquad := List.replicate 4 ID

theorem finite_words (b : Biquad) (h : b.finite = true) : ∀ w ∈ b.words, w.extractLsb' 23 8 ≠ 0xFF#8 :=
  fun w hw => (wordFinite_iff w).1 (List.all_eq_true.1 h w hw)

/-- A device of instance `p` about to take the byte `b` in the parse state `st`. -/
def rx (p : Params) (st : RxState) (b : Byte) : State :=
  { State.resetOf p with inbox := [.devRx], h2d := [b], devRx := st }

/-- The bytes of one UPLOAD of the identity bank (PK-1). -/
def pk1 : List Byte := [0x0A, 0x00] ++ idBytes ++ idBytes ++ [0x00] ++ [0x0A, 0x0A] ++ idBytes ++ idBytes ++ [0x01]

theorem test_pk1 : pk1 = (transferFrames tp (devWords idBank)).flatten := by decide

theorem inv_resetOf_tp : s0.Inv := by
  constructor
  case published => rfl
  case snapLength => intro w h; cases h
  case closedEmpty => exact fun _ => rfl
  case rxOk => trivial
  all_goals decide

theorem test_witness_BlockResetTable : 3 < tp.N := by decide

theorem test_witness_DeviceResetTable : (∃ l, tpDev.devResetBank = some l ∧ l.length = tpDev.NF) ∧
    19 < tpDev.NF ∧ 3 < tpDev.N := ⟨⟨_, rfl, by decide⟩, by decide, by decide⟩

theorem test_witness_ResetsAreIndependent :
    (∃ l, (State.resetOf tpDev).par.devResetBank = some l ∧ l.length = (State.resetOf tpDev).par.NF) ∧
    ({ s0 with inbox := [.blockReset] } : State).inbox = .blockReset :: [] ∧
    ({ s0 with inbox := [.deviceReset] } : State).inbox = .deviceReset :: [] := ⟨⟨_, rfl, by decide⟩, rfl, rfl⟩

theorem test_witness_ResetMeetsInvariant : tp.Valid := by decide

theorem test_witness_SectionCountAnswersN : s0.par.Valid := by decide

theorem test_witness_GetSectionAnswersStoredWords :
    ((3 : Byte).toNat < s0.par.N ∧ s0.bank[(3 : Byte).toNat]? = some ID) ∧ s0.par.N ≤ (4 : Byte).toNat := by decide

/-- The four clauses at the bank's last index and the one after; BK-8's words, whose lowest non-finite one is word 2. -/
theorem test_witness_SetSectionWritesOrRejects :
    s0.par.N ≤ (4 : Byte).toNat ∧
    ((3 : Byte).toNat < s0.par.N ∧ ([0, 0, 0, 0] : List Word).length ≠ 5) ∧
    ((3 : Byte).toNat < s0.par.N ∧ ([0, 0, 0x7FC00000, 0x7F800000, 0] : List Word).length = 5 ∧
      ([0, 0, 0x7FC00000, 0x7F800000, 0] : List Word)[2]? = some 0x7FC00000 ∧
      (0x7FC00000 : Word).extractLsb' 23 8 = 0xFF#8 ∧
      ∀ j v, j < 2 → ([0, 0, 0x7FC00000, 0x7F800000, 0] : List Word)[j]? = some v → v.extractLsb' 23 8 ≠ 0xFF#8) ∧
    ((3 : Byte).toNat < s0.par.N ∧ [LS.b0, LS.b1, LS.b2, LS.a1, LS.a2] = [LS.b0, LS.b1, LS.b2, LS.a1, LS.a2] ∧
      ∀ w ∈ [LS.b0, LS.b1, LS.b2, LS.a1, LS.a2], w.extractLsb' 23 8 ≠ 0xFF#8) := by
  refine ⟨by decide, by decide, ⟨by decide, by decide, by decide, by decide, ?_⟩, by decide, rfl,
    finite_words LS (by decide)⟩
  intro j v hj h
  obtain rfl | rfl : j = 0 ∨ j = 1 := by omega
  all_goals
    simp only [List.getElem?_cons_zero, List.getElem?_cons_succ, Option.some.injEq] at h
    subst h
    decide

theorem test_witness_OtherOperationsKeepTheBank :
    (∀ idx ws, Instr.tickPoll ≠ .setSection idx ws) ∧ ∃ t, exec .tickPoll s0 = .next t := ⟨by simp, exec_answers _ _⟩

theorem test_witness_SectionReadsBackAcrossOperations :
    s0.bank.length = s0.par.N ∧ (3 : Byte).toNat < s0.par.N ∧ (∀ w ∈ LS.words, w.extractLsb' 23 8 ≠ 0xFF#8) ∧
    ∃ t u, exec (.setSection 3 LS.words) s0 = .next t ∧
      (∀ i ∈ [Instr.setSection 2 HP.words, .tickPoll, .linkOpen com3], ∀ ws, i ≠ .setSection 3 ws) ∧
      execAll [Instr.setSection 2 HP.words, .tickPoll, .linkOpen com3] t = .next u := by
  obtain ⟨t, ht⟩ := exec_answers (.setSection 3 LS.words) s0
  obtain ⟨u, hu⟩ := exec_answers (.setSection 2 HP.words) t
  obtain ⟨v, hv⟩ := exec_answers .tickPoll u
  obtain ⟨w, hw⟩ := exec_answers (.linkOpen com3) v
  exact ⟨by decide, by decide, finite_words LS (by decide), t, w, ht, by simp,
    by simp only [execAll, hu, hv, hw]⟩

theorem test_witness_OnlySetSectionWritesTheBank :
    (∃ t, step { s0 with inbox := [.command ([0x03, 0x03, 0x05] ++ List.replicate 20 0) none] } = .next t ∧
      t.bank ≠ s0.bank) ∧
    ∃ t, step { s0 with bank := [], inbox := [.blockReset] } = .next t ∧ t.bank ≠ [] :=
  ⟨⟨_, rfl, by decide⟩, _, rfl, by decide⟩

/-- The snapshot missing, and equal to the bank; a bank that differs from it in one bit (PV-10). -/
theorem test_witness_TickResponseComputesWhenDirty :
    flatten s0.bank = s0.bank.flatMap (fun b => [b.b0, b.b1, b.b2, b.a1, b.a2]) ∧
    ({ s0 with respSnap := some (flatten s0.bank) } : State).respSnap = some (flatten s0.bank) ∧
    s0.respSnap ≠ some (flatten s0.bank) ∧
    ({ s0 with respSnap := some (flatten (s0.bank.set 2 ⟨0x3F800000, 0, 0, 0x80000000, 0⟩)) } : State).respSnap ≠
      some (flatten s0.bank) := by decide

theorem test_witness_VanishingTestIsExact :
    (0 < 1 ∧ vanishesAt 1 (-2) 1 0 1 = true) ∧ (1 < 3 ∧ vanishesAt 1 (-1) 1 1 3 = true) ∧
    (2 < 3 ∧ vanishesAt 1 1 1 2 3 = true) ∧ (1 < 2 ∧ vanishesAt 2 0 2 1 2 = true) ∧
    (1 < 4 ∧ vanishesAt 1 (-1) 1 1 4 = false) := by decide +kernel

theorem test_witness_ExactResponseIsTheReference : tp.respArith = .exact := rfl

theorem test_witness_IdentityBankIsFlat : tp.respArith = .exact := rfl

theorem test_witness_MagnitudesAndPhasesAdd :
    ∀ s ∈ [(⟨1, 0, 0, 0, 0⟩ : RealBiquad), ⟨2, 0, 0, 0, 0⟩], denominator s 0 ≠ 0 ∧ transfer s 0 ≠ 0 := by
  simp [transfer, numerator, denominator, trinomial]

theorem test_witness_FlatSectionContributesNothing : denominator ⟨1, 1 / 2, 1 / 4, 1 / 2, 1 / 4⟩ 0 ≠ 0 := by
  simp [denominator, trinomial]; norm_num

/-- The sign is flipped from coefficient 3 on: both sides of the edge, in the last section. -/
theorem test_witness_DeviceWordsAtFlatIndex :
    [ID, ID, ID, LS][3]? = some LS ∧ [LS.b0, LS.b1, LS.b2, LS.a1, LS.a2][2]? = some 0x3F000000 ∧
    [LS.b0, LS.b1, LS.b2, LS.a1, LS.a2][3]? = some 0xBFE66666 ∧
    [LS.b0, LS.b1, LS.b2, LS.a1, LS.a2][4]? = some 0x3F51EB85 := by decide

/-- Each side of the link, no draw, and the least draw that is no failure. -/
theorem test_witness_UploadAppendsTheTransfer :
    s0.link = .closed ∧ opened.link = .opened com3 ∧
    (∀ n, opened.writeDraw = some n → 86 ≤ n) ∧
    (∀ n, ({ opened with writeDraw := some 86 } : State).writeDraw = some n → 86 ≤ n) ∧
    ({ opened with writeDraw := some 85 } : State).writeDraw = some 85 ∧ pk1.length = 86 :=
  ⟨rfl, rfl, (fun _ h => by cases h), (fun _ h => by cases h; exact Nat.le_refl _), rfl, by decide⟩

/-- The boundary cuts (0 and 43) and cuts inside a frame next to the edges (1 and 85). -/
theorem test_witness_FailedUploadLeavesItsPrefix :
    transferFrames tp (devWords idBank) = transferFrames opened.par (devWords opened.bank) ∧ opened.link = .opened com3 ∧
    ({ opened with writeDraw := some 85 } : State).writeDraw = some 85 ∧ 85 < pk1.length ∧
    (∃ k, 0 = ((transferFrames tp (devWords idBank)).take k).flatten.length) ∧
    (∃ k, 43 = ((transferFrames tp (devWords idBank)).take k).flatten.length) ∧
    (∀ k, 1 ≠ ((transferFrames tp (devWords idBank)).take k).flatten.length) ∧
    (∀ k, 85 ≠ ((transferFrames tp (devWords idBank)).take k).flatten.length) := by
  refine ⟨by decide, rfl, rfl, by decide, ⟨0, by decide⟩, ⟨1, by decide⟩, ?_, ?_⟩ <;>
  · intro k
    match k with
    | 0 => decide
    | 1 => decide
    | n + 2 =>
      rw [List.take_of_length_le (by rw [show (transferFrames tp (devWords idBank)).length = 2 by decide]; omega)]
      decide

theorem test_witness_TransferLengthFormula : tp.Valid ∧ (devWords idBank).length = tp.NF := by decide

theorem test_witness_FragmentsPartitionTheBank : tp.Valid ∧ 19 < tp.NF ∧ 1 < fragmentCount tp ∧ 0 < fragmentCount tp := by
  decide

theorem test_witness_UploadedFramesAreLegal :
    tp.Valid ∧ (devWords idBank).length = tp.NF ∧ 0 < fragmentCount tp ∧ 0 + 1 ≠ fragmentCount tp ∧
    1 < fragmentCount tp ∧ 1 + 1 = fragmentCount tp := by decide

theorem test_witness_ReassemblyIsBitExact :
    tp.Valid ∧ idBank.length = tp.N ∧ (List.replicate 20 (0xFFFFFFFF : Word)).length = tp.NF := by decide

theorem test_witness_SendAutoeqAppendsTheCommand :
    s0.par.autoeqSeq = none ∧
    ((State.resetOf tpSeq2).par.autoeqSeq = some [0xFF, 0xFE] ∧ (State.resetOf tpSeq2).link = .closed) ∧
    (∀ n, ({ State.resetOf tpSeq2 with link := .opened com3, writeDraw := some 2 } : State).writeDraw = some n → 2 ≤ n) ∧
    (({ State.resetOf tpSeq2 with link := .opened com3, writeDraw := some 1 } : State).writeDraw = some 1 ∧
      1 < ([0xFF, 0xFE] : List Byte).length) ∧
    (({ State.resetOf tpSeq2 with link := .opened com3, writeDraw := some 0 } : State).writeDraw = some 0 ∧
      0 < ([0xFF, 0xFE] : List Byte).length) :=
  ⟨rfl, ⟨rfl, rfl⟩, (fun _ h => by cases h; exact Nat.le_refl _), ⟨rfl, by decide⟩, rfl, by decide⟩

theorem test_witness_LinkOpenReleasesThenOpens :
    ([] : List Byte) = (if ({ opened with d2h := [0x41] } : State).link = .closed then [0x41] else []) ∧
    s0.par.portValid com3 = true ∧ s0.par.portValid com9 = false := by decide

theorem test_witness_ReadAvailableDrainsTheQueue : opened.link = .opened com3 ∧ s0.link = .closed := ⟨rfl, rfl⟩

theorem test_witness_TickPollFillsTheSink : opened.link = .opened com3 ∧ s0.link = .closed := ⟨rfl, rfl⟩

theorem test_witness_TelemetryByteIsQueuedOrLost :
    (({ opened with inbox := [.devTx 0x41] } : State).inbox = .devTx 0x41 :: [] ∧
      ({ opened with inbox := [.devTx 0x41] } : State).link = .opened com3) ∧
    (({ s0 with inbox := [.devTx 0x41] } : State).inbox = .devTx 0x41 :: [] ∧
      ({ s0 with inbox := [.devTx 0x41] } : State).link = .closed) := ⟨⟨rfl, rfl⟩, rfl, rfl⟩

/-- The longest frame that ends at the bank's end, and the last float alone. -/
theorem test_witness_FragMoreBuffersItsWords :
    frameLegal s0.par 5 (List.replicate 15 0) = true ∧ frameLegal s0.par 19 [0] = true ∧
    s0.devShadow.length = s0.par.NF ∧ s0.devWmask.length = s0.par.NF ∧ 19 < s0.par.NF := by decide

theorem test_witness_FragFinalCommitsTheBuffer :
    frameLegal s0.par 5 (List.replicate 15 0) = true ∧ frameLegal s0.par 19 [0] = true ∧
    s0.devShadow.length = s0.par.NF ∧ s0.devWmask.length = s0.par.NF ∧
    ({ s0 with devWmask := List.replicate 20 true } : State).devWmask[0]? = some true := by decide

theorem test_witness_SampleFollowsTheRecurrence :
    ls4.devMode = .normal ∧ ls4.devActive.length = 5 * ls4.par.N ∧ ls4.devDly.length = ls4.par.N ∧
    ls4.devActive[5 * 3]? = some 0x3F800000 ∧ ls4.devActive[5 * 3 + 1]? = some 0 ∧ ls4.devActive[5 * 3 + 2]? = some 0 ∧
    ls4.devActive[5 * 3 + 3]? = some 0x80000000 ∧ ls4.devActive[5 * 3 + 4]? = some 0x80000000 ∧
    ls4.devDly[3]? = some Delay.zero ∧ ls4.par.devArith = .exact := by decide

theorem test_witness_SampleRefused : ({ s0 with devMode := .autoeq } : State).devMode = .autoeq := rfl

/-- A final fragment that changes the last active word, and one that leaves auto-EQ mode. -/
theorem test_witness_OnlyACommitChangesTheActiveBank :
    (∃ t, step (rx tpDev (.awaitTerm 1 19 [0x00, 0x00, 0x80, 0x3F]) 0x01) = .next t ∧
      t.devActive ≠ (rx tpDev (.awaitTerm 1 19 [0x00, 0x00, 0x80, 0x3F]) 0x01).devActive) ∧
    ∃ t, step { rx { tp with commitExitsAutoeq := true } (.awaitTerm 1 19 [0x00, 0x00, 0x80, 0x3F]) 0x01 with
      devMode := .autoeq } = .next t ∧ t.devMode = .normal :=
  ⟨⟨_, rfl, fun h => absurd (congrArg (fun l => l[19]?) h) (by decide)⟩, _, rfl, by decide⟩

theorem test_witness_ConventionsAreEquivalent : ∀ b ∈ [LS, HP, poleAtOne, ID], b.finite = true := by decide

theorem test_witness_SamplesAgreeWithThePreviewedBank :
    (∀ b ∈ LS :: List.replicate 3 ID, b.finite = true) ∧ ls4.devActive = devWords (LS :: List.replicate 3 ID) ∧
    ls4.devDly = List.replicate 4 ⟨.zero, .zero, .zero, .zero⟩ ∧ ls4.devMode = .normal ∧ ls4.par.devArith = .exact ∧
    1 < [Number.unknown 0, .unknown 1].length ∧
    ({ ls4 with inbox := [.sample (.unknown 0), .sample (.unknown 1)] } : State).inbox =
      ([Number.unknown 0, .unknown 1].take (1 + 1)).map Event.sample := by
  refine ⟨by decide, by decide, by decide, rfl, rfl, by decide, rfl⟩

theorem test_witness_ReceiverWaitsOrIsStuck :
    (({ s0 with inbox := [.devRx] } : State).inbox = .devRx :: [] ∧ s0.h2d = []) ∧
    DeviceFault.desync ∈ ({ s0 with inbox := [.devRx], h2d := [0x01], devFault := [.desync] } : State).devFault :=
  ⟨⟨rfl, rfl⟩, by decide⟩

/-- What the three statements about one byte ask of the state, whatever the instance, parse state and byte. -/
theorem test_witness_rx (p : Params) (st : RxState) (b : Byte) :
    (rx p st b).inbox = .devRx :: [] ∧ (rx p st b).devFault = [] ∧ (rx p st b).h2d = b :: [] ∧
      (rx p st b).devRx = st ∧ (rx p st b).par = p := ⟨rfl, rfl, rfl, rfl, rfl⟩

/-- The first bytes 1 and 15 start a frame, 0 and 16 do not; the three cases of `AUTOEQ_SEQ` for a byte that does not. -/
theorem test_witness_ReceiverIdleByte :
    (rx tp .idle 0x01).devRx = .idle ∧
    (1 ≤ (0x01 : Byte).toNat ∧ (0x01 : Byte).toNat ≤ 15) ∧ (1 ≤ (0x0F : Byte).toNat ∧ (0x0F : Byte).toNat ≤ 15) ∧
    ¬(1 ≤ (0x00 : Byte).toNat ∧ (0x00 : Byte).toNat ≤ 15) ∧ ¬(1 ≤ (0x10 : Byte).toNat ∧ (0x10 : Byte).toNat ≤ 15) ∧
    ¬(1 ≤ (0xFF : Byte).toNat ∧ (0xFF : Byte).toNat ≤ 15) ∧ tpSeq1.autoeqSeq = some [0xFF] ∧
    tpSeq2.autoeqSeq = some (0xFF :: 0xFE :: []) ∧ ∀ cs, tp.autoeqSeq ≠ some ((0x10 : Byte) :: cs) := by
  refine ⟨rfl, ?_, ?_, ?_, ?_, ?_, rfl, rfl, fun _ h => by cases h⟩ <;> decide

/-- The greatest start index a frame of ten may have, and the next; the data field's first, and its last, byte. -/
theorem test_witness_ReceiverStartIndexAndData :
    ((rx tp (.gotPc 10) 0x0A).devRx = .gotPc 10 ∧
      (0x0A : Byte).toNat + 10 ≤ s0.par.NF) ∧ s0.par.NF < (0x0B : Byte).toNat + 10 ∧
    (rx tp (.data 1 0 []) 0x00).devRx = .data 1 0 [] ∧
    (([] : List Byte).length + 1 ≠ 4 * 1 ∧ ([0, 0, 0] : List Byte).length + 1 = 4 * 1) := by
  refine ⟨⟨rfl, by decide⟩, by decide, rfl, by decide⟩

theorem test_witness_ReceiverTerminatorAndSequence :
    (rx tp (.awaitTerm 1 0 [0, 0, 0, 0]) 0x00).devRx = .awaitTerm 1 0 [0, 0, 0, 0] ∧ (rx tpSeq (.seq 98) 0xFF).devRx = .seq 98 ∧
    (0x00 : Byte) = s0.par.termMore ∧ ((0x01 : Byte) ≠ s0.par.termMore ∧ (0x01 : Byte) = s0.par.termFinal) ∧
    ((0x02 : Byte) ≠ s0.par.termMore ∧ (0x02 : Byte) ≠ s0.par.termFinal) ∧
    (tpSeq.autoeqSeq = some (List.replicate 100 0xFF) ∧
      (List.replicate 100 (0xFF : Byte))[98]? = some 0xFF ∧ 98 + 1 < (List.replicate 100 (0xFF : Byte)).length ∧
      (List.replicate 100 (0xFF : Byte))[99]? = some 0xFF ∧ 99 + 1 = (List.replicate 100 (0xFF : Byte)).length ∧
      (List.replicate 100 (0xFF : Byte))[50]? ≠ some 0x00) := by
  refine ⟨rfl, rfl, ?_, ?_, ?_, rfl, ?_, ?_, ?_, ?_, ?_⟩ <;> decide

theorem test_witness_ReceiverRunsTheEncodedMessage :
    s0.par.Valid ∧ (Instr.fragFinal 19 [0x3F800000]).wellFormed s0.par = true ∧
    (Instr.fragFinal 19 [0x3F800000]).channel = .link ∧
    encode s0.par (.fragFinal 19 [0x3F800000]) = some [0x01, 0x13, 0x00, 0x00, 0x80, 0x3F, 0x01] ∧
    s0.devFault = [] ∧ s0.devRx = .idle ∧
    ({ s0 with h2d := [0x01, 0x13, 0x00, 0x00, 0x80, 0x3F, 0x01] } : State).h2d =
      [0x01, 0x13, 0x00, 0x00, 0x80, 0x3F, 0x01] ++ [] ∧
    ({ s0 with inbox := List.replicate 7 .devRx } : State).inbox =
      List.replicate ([0x01, 0x13, 0x00, 0x00, 0x80, 0x3F, 0x01] : List Byte).length .devRx ++ [] := by
  refine ⟨by decide, by decide, rfl, by decide, rfl, rfl, rfl, rfl⟩

/-- The state the two whole-transfer statements start from. -/
def flight (k : Nat) : State := { s0 with h2d := pk1, inbox := List.replicate k .devRx }

theorem inv_flight (k : Nat) : (flight k).Inv := by
  obtain ⟨a, b, c, d, e, f, g, h, i, j, l⟩ := inv_resetOf_tp
  exact ⟨a, b, c, d, e, f, g, h, i, j, l⟩

theorem test_witness_CompleteTransferCommitsTheBank :
    (flight pk1.length).Inv ∧ idBank.length = (flight pk1.length).par.N ∧
    pk1 = (transferFrames (flight pk1.length).par (devWords idBank)).flatten ∧ (flight pk1.length).devFault = [] ∧
    (flight pk1.length).devRx = .idle ∧ (flight pk1.length).h2d = pk1 ∧
    (flight pk1.length).inbox = List.replicate pk1.length .devRx :=
  ⟨inv_flight _, by decide, test_pk1, rfl, rfl, rfl, rfl⟩

/-- A device inside PK-1's transfer, `k` of its 86 bytes consumed, with the parse state they leave and every word
buffered. -/
def inside (k : Nat) (st : RxState) (e : Event) : State :=
  { s0 with
    devShadow := devWords idBank, devWmask := List.replicate 20 true, devRx := st, h2d := pk1.drop k, inbox := [e] }

theorem midTransfer_inside (k : Nat) (st : RxState) (e : Event) (hk : k < pk1.length)
    (hp : rxParse tp .idle (pk1.take k) = some st) : (inside k st e).MidTransfer (devWords idBank) k [] := by
  have hb : (transferFrames tp (devWords idBank)).flatten = pk1 := test_pk1.symm
  refine ⟨rfl, ?_, ?_, ?_, fun m j _ hi hj => ⟨rfl, ?_⟩⟩
  · exact hb ▸ hk
  · exact (congrArg (List.drop k) hb).symm.trans (List.append_nil _).symm
  · exact (hb ▸ hp : rxParse tp .idle ((transferFrames tp (devWords idBank)).flatten.take k) = some st)
  · have hj' : j < 20 := by
      simp only [fragmentStart, fragmentLength, inside, s0, State.resetOf, tp, Params.testProfile, Params.NF] at hi hj
      omega
    exact List.getElem?_replicate_of_lt hj'

theorem inv_inside (k : Nat) (st : RxState) (e : Event) (h : RxState.Ok tp st) : (inside k st e).Inv := by
  obtain ⟨a, b, c, d, f, g, i, _, _, j, _⟩ := inv_resetOf_tp
  exact ⟨a, b, c, d, f, g, i, (by decide : (devWords idBank).length = tp.NF), List.length_replicate, j, h⟩

/-- The last byte but one, and the last, which commits; and another agent's step between them. -/
theorem test_witness_NoPartialBankIsEverActive :
    (inside 84 (.data 10 0x0A ((pk1.drop 45).take 39)) .devRx).MidTransfer (devWords idBank) 84 [] ∧
    (inside 85 (.awaitTerm 10 0x0A ((pk1.drop 45).take 40)) .devRx).MidTransfer (devWords idBank) 85 [] ∧
    (inside 85 (.awaitTerm 10 0x0A ((pk1.drop 45).take 40)) (.sample .zero)).MidTransfer (devWords idBank) 85 [] ∧
    (inside 84 (.data 10 0x0A ((pk1.drop 45).take 39)) .devRx).Inv ∧
    (∀ e, (inside 85 (.awaitTerm 10 0x0A ((pk1.drop 45).take 40)) e).Inv) ∧ (devWords idBank).length = tp.NF ∧
    84 + 1 < pk1.length ∧ 85 + 1 = pk1.length ∧
    (∃ t, step (inside 84 (.data 10 0x0A ((pk1.drop 45).take 39)) .devRx) = .next t) ∧
    (∃ t, step (inside 85 (.awaitTerm 10 0x0A ((pk1.drop 45).take 40)) .devRx) = .next t) ∧
    ∃ t, step (inside 85 (.awaitTerm 10 0x0A ((pk1.drop 45).take 40)) (.sample .zero)) = .next t :=
  ⟨midTransfer_inside _ _ _ (by decide) (by decide), midTransfer_inside _ _ _ (by decide) (by decide),
    midTransfer_inside _ _ _ (by decide) (by decide), inv_inside _ _ _ (by simp only [RxState.Ok]; decide),
    fun _ => inv_inside _ _ _ (by simp only [RxState.Ok]; decide), by decide, by decide, by decide,
    ⟨_, rfl⟩, ⟨_, rfl⟩, _, rfl⟩

theorem test_witness_FramingIsNeverLostWithoutFailure :
    (flight 1).Inv ∧ (flight 1).FramingIntact ∧ (flight 1).nextEvent ≠ .blockReset ∧
    (flight 1).nextEvent ≠ .deviceReset ∧ (∀ bytes draw, (flight 1).nextEvent = .command bytes draw → draw = none) ∧
    ∃ t, step (flight 1) = .next t :=
  ⟨inv_flight _, ⟨rfl, by decide⟩, (fun h => by cases h), (fun h => by cases h), (fun _ _ h => by cases h), _, rfl⟩

theorem test_witness_DesyncIsSticky :
    DeviceFault.desync ∈ ({ s0 with devFault := [.desync], h2d := [0x01], inbox := [.devRx] } : State).devFault ∧
    ({ s0 with devFault := [.desync], h2d := [0x01], inbox := [.devRx] } : State).nextEvent ≠ .deviceReset ∧
    ∃ t, step { s0 with devFault := [.desync], h2d := [0x01], inbox := [.devRx] } = .next t :=
  ⟨by decide, (fun h => by cases h), _, rfl⟩

theorem test_witness_EveryStepKeepsTheInvariant : (flight 1).Inv ∧ ∃ t, step (flight 1) = .next t :=
  ⟨inv_flight _, _, rfl⟩

theorem test_witness_StepRunsTheDecodedOperation :
    (({ s0 with inbox := [.command [0x30] none] } : State).inbox = .command [0x30] none :: [] ∧
      decodeCommand [0x30] = .ok .tickResponse []) ∧
    (({ s0 with inbox := [.command [0x30, 0x31] none] } : State).inbox = .command [0x30, 0x31] none :: [] ∧
      decodeCommand [0x30, 0x31] = .ok .tickResponse (0x31 :: [])) ∧
    ({ s0 with inbox := [.timerResponse] } : State).inbox = .timerResponse :: [] ∧
    ({ s0 with inbox := [.timerPoll] } : State).inbox = .timerPoll :: [] ∧
    ({ s0 with inbox := [.sample (.ofRat 1)] } : State).inbox = .sample (.ofRat 1) :: [] := by
  refine ⟨⟨rfl, by decide⟩, ⟨rfl, by decide⟩, rfl, rfl, rfl⟩

/-- A refusal, a success, and an error of each kind the block raises. -/
theorem test_witness_StatusCodesAndCauses :
    (Instr.sendAutoeq.opcode = some 0x11 ∧ ∃ t, exec .sendAutoeq s0 = .next t ∧ t.resp = none) ∧
    (Instr.sectionCount.opcode = some 0x01 ∧ ∃ t, exec .sectionCount s0 = .next t ∧ t.resp = some ⟨.ok, .count 4⟩) ∧
    ((Instr.setSection 3 []).opcode = some 0x03 ∧
      ∃ t, exec (.setSection 3 []) s0 = .next t ∧ t.resp = some ⟨.validationError, .none⟩) ∧
    ((Instr.getSection 4).opcode = some 0x02 ∧
      ∃ t, exec (.getSection 4) s0 = .next t ∧ t.resp = some ⟨.indexRangeError, .none⟩) ∧
    (Instr.readAvailable.opcode = some 0x22 ∧
      ∃ t, exec .readAvailable s0 = .next t ∧ t.resp = some ⟨.linkUnavailableError, .none⟩) ∧
    (Instr.upload.opcode = some 0x10 ∧
      ∃ t, exec .upload { opened with writeDraw := some 0 } = .next t ∧ t.resp = some ⟨.transmissionError, .none⟩) :=
  ⟨⟨rfl, _, rfl, rfl⟩, ⟨rfl, _, rfl, rfl⟩, ⟨rfl, _, rfl, rfl⟩, ⟨rfl, _, rfl, rfl⟩, ⟨rfl, _, rfl, rfl⟩, rfl, _, rfl, rfl⟩

/-- A refusal, a success, an error without effects, a failed write, and a failed LINK_OPEN of an open link. -/
theorem test_witness_ErrorsAppendOneDiagnostic :
    (Instr.sendAutoeq.opcode = some 0x11 ∧ ∃ t, exec .sendAutoeq s0 = .next t ∧ t.resp = none) ∧
    (Instr.sectionCount.opcode = some 0x01 ∧ ∃ t, exec .sectionCount s0 = .next t ∧ t.resp = some ⟨.ok, .count 4⟩) ∧
    (Instr.upload.opcode = some 0x10 ∧ ∃ t, exec .upload s0 = .next t ∧ t.resp = some ⟨.linkUnavailableError, .none⟩) ∧
    (∃ t, exec .upload { opened with writeDraw := some 1 } = .next t ∧ t.resp = some ⟨.transmissionError, .none⟩) ∧
    ((Instr.linkOpen com9).opcode = some 0x20 ∧
      ∃ t, exec (.linkOpen com9) { opened with d2h := [0x41] } = .next t ∧
        t.resp = some ⟨.linkUnavailableError, .none⟩) :=
  ⟨⟨rfl, _, rfl, rfl⟩, ⟨rfl, _, rfl, rfl⟩, ⟨rfl, _, rfl, rfl⟩, ⟨_, rfl, rfl⟩, rfl, _, rfl, rfl⟩

/-- With a refusal marked and a telemetry byte kept. -/
theorem test_witness_SinksOnlyGrow :
    (∃ t, step { flight 1 with refused := [.autoeqFilter], telem := [0x41] } = .next t) ∧
    ({ flight 1 with refused := [.autoeqFilter], telem := [0x41] } : State).nextEvent ≠ .blockReset ∧
    RefusalName.autoeqFilter ∈ ({ flight 1 with refused := [.autoeqFilter] } : State).refused :=
  ⟨⟨_, rfl⟩, (fun h => by cases h), by decide⟩

theorem test_witness_ParametersNeverChange : ∃ t, step (flight 1) = .next t := ⟨_, rfl⟩

/-- Two states with the same host and a device in different modes, faults and queues. -/
theorem test_witness_HostNeverReadsTheDevice :
    Instr.upload.channel = .command ∧
    ({ opened with devMode := .autoeq, devFault := [.desync], h2d := [0x0A] } : State) =
      { opened with
        h2d := [0x0A], devActive := opened.devActive, devShadow := opened.devShadow, devWmask := opened.devWmask
        devRx := .idle, devMode := .autoeq, devDly := opened.devDly, devFault := [.desync]
        sampleOut := opened.sampleOut, draws := opened.draws } ∧
    ∃ t t', exec .upload opened = .next t ∧
      exec .upload { opened with devMode := .autoeq, devFault := [.desync], h2d := [0x0A] } = .next t' :=
  ⟨rfl, rfl, _, _, rfl, rfl⟩

/-- The longest operand lists the encodings admit. -/
theorem test_witness_DecodeOfEncodeIsIdentity :
    tp.Valid ∧ (∃ bs, (Instr.setSection 255 (List.replicate 255 0)).wellFormed tp = true ∧
      encode tp (.setSection 255 (List.replicate 255 0)) = some bs) ∧
    ∃ bs, (Instr.fragMore 5 (List.replicate 15 0)).wellFormed tp = true ∧
      encode tp (.fragMore 5 (List.replicate 15 0)) = some bs :=
  ⟨by decide +kernel, ⟨_, by decide +kernel, rfl⟩, _, by decide +kernel, rfl⟩

theorem test_witness_ReservedOpcodesAreRefused :
    ({ s0 with inbox := [.command (0x06 :: []) none] } : State).inbox = .command (0x06 :: []) none :: [] ∧
    (0x06 : Byte).toNat ∉ [0x01, 0x02, 0x03, 0x04, 0x05, 0x10, 0x11, 0x20, 0x21, 0x22, 0x30, 0x31] := ⟨rfl, by decide⟩

theorem test_witness_BoostBassFillsTheBank : s0.Inv ∧ HP.finite = true := ⟨inv_resetOf_tp, by decide⟩

/-- EX-6's rows, four of them for a bank of four. -/
theorem test_witness_ImportsApplyTheirGoodRows :
    s0.Inv ∧ [LS.words, HP.words, [0x3F800000, 0, 0, 0], [0x40000000, 0, 0, 0, 0]].length ≤ s0.par.N ∧
    (∀ r ∈ [LS.words, HP.words, [0x3F800000, 0, 0, 0], [0x40000000, 0, 0, 0, 0]], r.length = 5 →
      ∀ w ∈ r, wordFinite w = true) ∧
    [LS.words, HP.words, [0x3F800000, 0, 0, 0], [0x40000000, 0, 0, 0, 0]][3]? = some [0x40000000, 0, 0, 0, 0] ∧
    ∀ r, [LS.words, HP.words, [0x3F800000, 0, 0, 0], [0x40000000, 0, 0, 0, 0]][2]? = some r → r.length ≠ 5 :=
  ⟨inv_resetOf_tp, by decide, fun r hr hl w hw => by
    have h : [LS.words, HP.words, [0x3F800000, 0, 0, 0], [0x40000000, 0, 0, 0, 0]].all
        (fun r => r.all wordFinite) = true := by decide
    exact List.all_eq_true.1 (List.all_eq_true.1 h r hr) w hw, by decide, fun r h => by
    simp only [List.getElem?_cons_zero, List.getElem?_cons_succ, Option.some.injEq] at h
    subst h
    decide⟩

/-- The greatest finite word, and the least subnormal with its sign. -/
theorem test_witness_DecimalOfAWordIsTheWord :
    (wordFinite 0x7F7FFFFF = true ∧ (0x7F7FFFFF : Word) ≠ 0x80000000#32) ∧
    (wordFinite 0x80000001 = true ∧ (0x80000001 : Word) ≠ 0x80000000#32) ∧
    wordOfRat (val 0x7F7FFFFF) = 0x7F7FFFFF ∧ wordOfRat (val 0x80000001) = 0x80000001 := by decide +kernel

end Sys2Proof.Tests
end

/-! # Proofs of the family 20_memory: floats as bytes, and the flat order of the bank's words -/
section

namespace Sys2Proof

/-- R63: byte `i` of a word is its value shifted down by `8·i` bits, modulo 256. -/
theorem le32_map_toNat (w : Word) : (le32 w).map BitVec.toNat =
    [w.toNat % 256, w.toNat / 256 % 256, w.toNat / 65536 % 256, w.toNat / 16777216] := by
  have hw : w.toNat < 4294967296 := w.isLt
  have top : w.toNat / 16777216 % 256 = w.toNat / 16777216 := Nat.mod_eq_of_lt (by omega)
  simp [le32, BitVec.extractLsb'_toNat, Nat.shiftRight_eq_div_pow, top]

/-- R64: a word is read back from its own four bytes, whatever bytes follow. -/
@[simp] theorem wordsOf_le32_append (w : Word) (bs : List Byte) : wordsOf (le32 w ++ bs) = w :: wordsOf bs :=
  congrArg (· :: wordsOf bs) (unle32_bytes w)

theorem wordsOf_bytesOf (ws : List Word) : wordsOf (bytesOf ws) = ws := by
  induction ws with
  | nil => rfl
  | cons w ws ih => rw [bytesOf_cons, wordsOf_le32_append, ih]

/-- R61: coefficient `c` of section `i` stands at flat index `5·i + c`. -/
theorem flatten_getElem? {bank : List Biquad} {i c : Nat} {b : Biquad} {w : Word} (hb : bank[i]? = some b)
    (hw : b.words[c]? = some w) : (flatten bank)[5 * i + c]? = some w := by
  induction bank generalizing i with
  | nil => simp at hb
  | cons d ds ih =>
    have hd := Biquad.words_length d
    cases i with
    | zero =>
      obtain rfl : d = b := by simpa using hb
      obtain ⟨hc, -⟩ := List.getElem?_eq_some_iff.1 hw
      rw [flatten_cons, Nat.mul_zero, Nat.zero_add, List.getElem?_append_left hc, hw]
    | succ i =>
      have hi : 5 * (i + 1) + c - d.words.length = 5 * i + c := by omega
      rw [flatten_cons, List.getElem?_append_right (by omega), hi]
      exact ih (by simpa using hb)

/-- R131: the sign flip leaves the first three words and negates the last two. -/
theorem Biquad.toDevice_words_getElem? {b : Biquad} {c : Nat} {w : Word} (hw : b.words[c]? = some w) :
    b.toDevice.words[c]? = some (if c < 3 then w else fneg w) := by
  match c with
  | 0 | 1 | 2 => exact hw
  | 3 | 4 => exact congrArg (Option.map fneg) hw
  | _ + 5 => cases hw

/-- R170: the word that UPLOAD sends at flat index `5·i + c`. -/
theorem devWords_getElem? {bank : List Biquad} {i c : Nat} {b : Biquad} {w : Word} (hb : bank[i]? = some b)
    (hw : b.words[c]? = some w) : (devWords bank)[5 * i + c]? = some (if c < 3 then w else fneg w) := by
  have hd : (bank.map Biquad.toDevice)[i]? = some b.toDevice := by rw [List.getElem?_map, hb]; rfl
  exact flatten_getElem? hd (Biquad.toDevice_words_getElem? hw)

/-- Settles O18: the bytes of one word by shifts, and those of a list by induction on its words. -/
theorem floatBytesRoundTrip : Obligations.FloatBytesRoundTrip :=
  ⟨le32_map_toNat, wordsOf_bytesOf⟩

/-- Settles O19, from the flat index of a section's coefficient, in the bank and in the sign-flipped bank. -/
theorem deviceWordsAtFlatIndex : Obligations.DeviceWordsAtFlatIndex :=
  ⟨fun bank => ⟨flatten_length bank, devWords_length bank⟩,
    fun _ _ _ _ _ hb hw => ⟨flatten_getElem? hb hw, devWords_getElem? hb hw⟩⟩

end Sys2Proof
end

/-! # Proofs of the family 40_bank: what the bank's three operations answer, and what keeps a section -/
section

namespace Sys2Proof

/-- R112's check finds nothing exactly where no word has exponent field `0xFF`. -/
theorem firstNonFinite_eq_none_iff (ws : List Word) :
    firstNonFinite ws = none ↔ ∀ w ∈ ws, w.extractLsb' 23 8 ≠ 0xFF#8 := by
  simp [firstNonFinite, List.findIdx?_eq_none_iff, wordFinite_iff]

/-- R112, R255: the check finds the lowest-numbered word with exponent field `0xFF`. -/
theorem firstNonFinite_eq_some {ws : List Word} {c : Nat} {w : Word} (hw : ws[c]? = some w)
    (hbad : w.extractLsb' 23 8 = 0xFF#8) (hlow : ∀ j v, j < c → ws[j]? = some v → v.extractLsb' 23 8 ≠ 0xFF#8) :
    firstNonFinite ws = some c := by
  obtain ⟨hc, rfl⟩ := List.getElem?_eq_some_iff.1 hw
  refine List.findIdx?_eq_some_iff_getElem.2 ⟨hc, ?_, fun j hj => ?_⟩
  · simp [← Bool.not_eq_true, wordFinite_iff, hbad]
  · have hfin := (wordFinite_iff _).2 (hlow j _ hj (List.getElem?_eq_getElem (hj.trans hc)))
    simp [hfin]

namespace Machine

variable {s t u : State} {i : Instr} {idx : Byte} {ws : List Word} {b : Biquad}

/-! ### The bank's operations, one equation a case -/

theorem exec_getSection_of_outside (h : s.par.N ≤ idx.toNat) :
    exec (.getSection idx) s = .next (s.raise 0x02 .indexRangeError (.idx idx)) :=
  congrArg _ (if_pos h)

theorem exec_getSection_of_stored (h : idx.toNat < s.par.N) (hb : s.bank[idx.toNat]? = some b) :
    exec (.getSection idx) s = .next (s.answer (.words b.words)) := by
  have hsec : s.sectionAt idx.toNat = b := by simp [State.sectionAt, hb]
  rw [← hsec]
  exact congrArg _ (if_neg h.not_ge)

theorem exec_setSection_of_outside (h : s.par.N ≤ idx.toNat) :
    exec (.setSection idx ws) s = .next (s.raise 0x03 .indexRangeError (.idx idx)) :=
  congrArg _ (if_pos h)

theorem exec_setSection_of_count (h : idx.toNat < s.par.N) (hn : ws.length ≠ 5) :
    exec (.setSection idx ws) s = .next (s.raise 0x03 .validationError (.count ws.length)) := by
  refine congrArg Host.Outcome.next ((if_neg h.not_ge).trans ?_)
  split
  · exact absurd rfl hn
  · rfl

theorem exec_setSection_of_nonFinite {c : Nat} (h : idx.toNat < s.par.N) (hn : ws.length = 5)
    (hc : firstNonFinite ws = some c) :
    exec (.setSection idx ws) s = .next (s.raise 0x03 .validationError (.word c)) := by
  match ws, hn with
  | [_, _, _, _, _], _ =>
    refine congrArg Host.Outcome.next ((if_neg h.not_ge).trans ?_)
    simp only [hc]

theorem exec_setSection_of_finite (h : idx.toNat < s.par.N) (hb : firstNonFinite b.words = none) :
    exec (.setSection idx b.words) s = .next ((s.setSectionAt idx.toNat b).answer .none) := by
  rw [Biquad.words] at hb ⊢
  refine congrArg Host.Outcome.next ((if_neg h.not_ge).trans ?_)
  simp only [hb]

/-! ### What an operation does to the bank and to the parameters -/

/-- R112: SET_SECTION of an index leaves the bank, or replaces the section of that index. -/
theorem exec_setSection_bank (h : exec (.setSection idx ws) s = .next t) :
    t.bank = s.bank ∨ ∃ b, t.bank = s.bank.set idx.toNat b := by
  cases h; split
  · exact .inl rfl
  · split
    · split
      · exact .inl rfl
      · exact .inr ⟨_, rfl⟩
    · exact .inl rfl

/-- R113: no operation but SET_SECTION changes the bank. -/
theorem exec_bank_of_ne_setSection (hi : ∀ idx ws, i ≠ .setSection idx ws) (h : exec i s = .next t) :
    t.bank = s.bank := by
  cases i
  case setSection idx ws => exact absurd rfl (hi idx ws)
  case sectionCount | toDevice | toPreview | linkClose | autoeqCmd => cases h; rfl
  case sendAutoeq =>
    cases h; split
    · rfl
    · split <;> simp
  case getSection | upload | linkOpen | readAvailable | tickResponse | tickPoll | fragMore | fragFinal | sample =>
    cases h; split <;> simp

/-- R25, R284: no operation changes the parameters. -/
theorem exec_par (h : exec i s = .next t) : t.par = s.par := by
  cases hi : i.channel with
  | command => exact (exec_command_sameDevice hi h).par
  | link | datapath =>
    cases i
    case autoeqCmd => cases h; rfl
    case fragMore | fragFinal | sample => cases h; split <;> simp
    all_goals cases hi

/-- R113: a section stays through any operation that is no SET_SECTION of its index. -/
theorem exec_keeps_section (hi : ∀ ws, i ≠ .setSection idx ws) (h : exec i s = .next t) :
    t.bank[idx.toNat]? = s.bank[idx.toNat]? := by
  by_cases hset : ∃ k ws, i = .setSection k ws
  · obtain ⟨k, ws, rfl⟩ := hset
    have hk : k.toNat ≠ idx.toNat := fun e => hi ws (by rw [BitVec.eq_of_toNat_eq e])
    obtain hb | ⟨b, hb⟩ := exec_setSection_bank h
    · rw [hb]
    · rw [hb, List.getElem?_set_ne hk]
  · rw [exec_bank_of_ne_setSection (fun k ws e => hset ⟨k, ws, e⟩) h]

/-! ### Operations one after the other -/

theorem execAll_cons_eq_next {is : List Instr} :
    execAll (i :: is) s = .next u ↔ ∃ t, exec i s = .next t ∧ execAll is t = .next u := by
  obtain ⟨t, ht⟩ := exec_answers i s
  simp [execAll, ht]

/-- R113, R284: the parameters stay through any operations, and a section through any that are no SET_SECTION of it. -/
theorem execAll_keeps_section {is : List Instr} (hi : ∀ i ∈ is, ∀ ws, i ≠ .setSection idx ws)
    (h : execAll is s = .next u) : u.par = s.par ∧ u.bank[idx.toNat]? = s.bank[idx.toNat]? := by
  induction is generalizing s with
  | nil => cases h; exact ⟨rfl, rfl⟩
  | cons i is ih =>
    obtain ⟨t, ht, hu⟩ := execAll_cons_eq_next.1 h
    obtain ⟨hpar, hsec⟩ := ih (fun j hj => hi j (List.mem_cons_of_mem i hj)) hu
    exact ⟨hpar.trans (exec_par ht), hsec.trans (exec_keeps_section (hi i List.mem_cons_self) ht)⟩

end Machine

open Machine

/-- Settles O8: what SET_SECTION wrote stays through the operations, by induction on their list, and is what GET_SECTION
answers. -/
theorem sectionReadsBackAcrossOperations : Obligations.SectionReadsBackAcrossOperations := by
  refine ⟨fun _ _ _ hi h => exec_bank_of_ne_setSection hi h, ?_⟩
  intro s t u idx b is hlen hidx hfin hset hi hall
  cases (exec_setSection_of_finite hidx ((firstNonFinite_eq_none_iff _).2 hfin)).symm.trans hset
  obtain ⟨hpar, hsec⟩ := execAll_keeps_section hi hall
  have hread : u.bank[idx.toNat]? = some b :=
    hsec.trans (List.getElem?_set_self (hidx.trans_eq hlen.symm))
  exact exec_getSection_of_stored (hidx.trans_eq (congrArg Params.N hpar).symm) hread

/-- Settles O5: `N` fits a byte, since `5·N` is at most 256 (R6). -/
theorem sectionCountAnswersN : Obligations.SectionCountAnswersN := by
  refine fun s => ⟨BitVec.ofNat 8 s.par.N, rfl, fun hvalid => ?_⟩
  obtain ⟨-, hN, -⟩ := hvalid
  exact Nat.mod_eq_of_lt (by omega)

/-- Settles O6, one case of GET_SECTION a clause. -/
theorem getSectionAnswersStoredWords : Obligations.GetSectionAnswersStoredWords :=
  fun _ _ => ⟨fun _ h hb => exec_getSection_of_stored h hb, exec_getSection_of_outside⟩

/-- Settles O7, one case of SET_SECTION a clause. -/
theorem setSectionWritesOrRejects : Obligations.SetSectionWritesOrRejects := by
  refine fun s idx ws => ⟨exec_setSection_of_outside, exec_setSection_of_count, ?_, ?_⟩
  · intro c w hidx hn hw hbad hlow
    exact exec_setSection_of_nonFinite hidx hn (firstNonFinite_eq_some hw hbad hlow)
  · rintro b hidx rfl hfin
    exact exec_setSection_of_finite hidx ((firstNonFinite_eq_none_iff _).2 hfin)

end Sys2Proof
end

/-! # Proofs of the family 41_sign_adapter: the sign flip of words, of sections, and of the recurrence -/
section

namespace Sys2Proof

/-! ### The sign flip of a word -/

/-- R133: the sign flip undoes itself. -/
theorem fneg_involutive : Function.Involutive fneg := fun w => by
  simp only [fneg, BitVec.xor_assoc, BitVec.xor_self, BitVec.xor_zero]

@[simp] theorem fneg_sign (w : Word) : (fneg w)[31] = !w[31] := by simp [fneg]

/-- The sign flip leaves every field of the word below bit 31. -/
theorem fneg_extractLsb' (w : Word) {start len : Nat} (h : start + len ≤ 31) :
    (fneg w).extractLsb' start len = w.extractLsb' start len := by
  ext i hi
  have hmask : (0x80000000#32 : Word).getLsbD (start + i) = false := by
    have hne : 31 ≠ start + i := by omega
    rw [show 0x80000000#32 = BitVec.twoPow 32 31 from rfl, BitVec.getLsbD_twoPow, decide_eq_false hne, Bool.and_false]
  simp [fneg, hmask]

@[simp] theorem fneg_exponent (w : Word) : exponent (fneg w) = exponent w := by
  rw [exponent, fneg_extractLsb' w (by decide), exponent]

@[simp] theorem fneg_fraction (w : Word) : fraction (fneg w) = fraction w := by
  rw [fraction, fneg_extractLsb' w (by decide), fraction]

@[simp] theorem fneg_magnitude (w : Word) : magnitude (fneg w) = magnitude w := by simp [magnitude]

@[simp] theorem fneg_wordFinite (w : Word) : wordFinite (fneg w) = wordFinite w := by simp [wordFinite]

/-- R8: the sign flip of a finite word denotes the opposite number, both zeros denoting 0. -/
theorem val_fneg {w : Word} (h : wordFinite w = true) : val (fneg w) = -val w := by
  cases hs : w[31] <;> simp [val, h, hs]

/-! ### TO_DEVICE of a section -/

theorem Biquad.toDevice_involutive : Function.Involutive Biquad.toDevice := fun b => by
  simp [Biquad.toDevice, fneg_involutive b.a1, fneg_involutive b.a2]

/-- R133: an even number of applications gives the section, an odd number its device form. -/
theorem Biquad.toDevice_iterate (b : Biquad) (k : Nat) :
    Biquad.toDevice^[k] b = if k % 2 = 0 then b else b.toDevice := by
  obtain hk | hk := Nat.even_or_odd k
  · rw [toDevice_involutive.iterate_even hk, if_pos (Nat.even_iff.1 hk)]; rfl
  · rw [toDevice_involutive.iterate_odd hk, if_neg (by rw [Nat.odd_iff.1 hk]; decide)]

/-! ### TO_DEVICE and the two recurrences -/

namespace Machine

/-- R130, R135: the device recurrence adds what the host recurrence subtracts, by induction along the recurrence. -/
theorem deviceSection_toDevice {b : Biquad} (hb : b.finite = true) (x : Nat → ℝ) :
    deviceSection b.toDevice x = hostSection b x := by
  have hfin : ∀ w ∈ b.words, wordFinite w = true := List.all_eq_true.1 hb
  have ha1 : val (fneg b.a1) = -val b.a1 := val_fneg (hfin _ (by simp [Biquad.words]))
  have ha2 : val (fneg b.a2) = -val b.a2 := val_fneg (hfin _ (by simp [Biquad.words]))
  funext n
  induction n using Nat.twoStepInduction with
  | zero => rfl
  | one =>
    simp only [deviceSection, hostSection, Biquad.toDevice, ha1, Rat.cast_neg]
    ring
  | more n ih ih' =>
    rw [deviceSection, hostSection, ih, ih']
    simp only [Biquad.toDevice, ha1, ha2, Rat.cast_neg]
    ring

/-- R135 along the cascade: every section gives the next one the same input in both conventions. -/
theorem deviceCascade_toDevice {bank : List Biquad} (hbank : ∀ b ∈ bank, b.finite = true) (x : Nat → ℝ) :
    deviceCascade (bank.map Biquad.toDevice) x = hostCascade bank x := by
  induction bank generalizing x with
  | nil => rfl
  | cons b bs ih =>
    obtain ⟨hb, hbs⟩ := List.forall_mem_cons.1 hbank
    rw [List.map_cons, deviceCascade, hostCascade, deviceSection_toDevice hb, ih hbs]

end Machine

open Machine

/-- Settles O11: a section's sign flip undoes itself since a word's does, and iterates by parity. -/
theorem toDeviceIsInvolution : Obligations.ToDeviceIsInvolution :=
  fun b k => ⟨Biquad.toDevice_involutive b, b.toDevice_iterate k⟩

/-- Settles O37, from one section's recurrence by induction along the cascade. -/
theorem conventionsAreEquivalent : Obligations.ConventionsAreEquivalent :=
  fun _ x n hbank => congrFun (deviceCascade_toDevice hbank x) n

/-- Settles O10: both operations answer with the words of a pure function of their operand. -/
theorem signTransformsArePure : Obligations.SignTransformsArePure :=
  fun _ _ => ⟨rfl, rfl⟩

end Sys2Proof
end

/-! # Proofs of the family 42_cascade_response: the zeros of a section on the grid, the cascade's transfer function, and
what TICK_RESPONSE publishes -/
section

namespace Sys2Proof

/-- R24: the words of the identity section denote `(1, 0, 0, 0, 0)`. -/
@[simp] theorem Biquad.identity_real : Biquad.identity.real = ⟨1, 0, 0, 0, 0⟩ := by decide +kernel

namespace Machine

/-! ### Zeros of a trinomial on the grid -/

/-- `c0 + c1·e^{-jω} + c2·e^{-2jω}` over `e^{-jω}` has the real part `(c0 + c2)·cos ω + c1` and the imaginary part
`(c0 - c2)·sin ω`. -/
theorem trinomial_eq_exp_mul (c0 c1 c2 : ℚ) (ω : ℝ) : trinomial c0 c1 c2 ω =
    Complex.exp (-(ω * Complex.I)) *
      ⟨((c0 : ℝ) + c2) * Real.cos ω + c1, ((c0 : ℝ) - c2) * Real.sin ω⟩ := by
  have hinv : Complex.exp (-(ω * Complex.I)) * Complex.exp (ω * Complex.I) = 1 := by
    rw [← Complex.exp_add, neg_add_cancel, Complex.exp_zero]
  have hsq : Complex.exp (-(2 * ω * Complex.I)) = Complex.exp (-(ω * Complex.I)) ^ 2 := by
    rw [← Complex.exp_nat_mul]; congr 1; push_cast; ring
  have hneg : Complex.exp (-(ω * Complex.I)) = Real.cos ω - Real.sin ω * Complex.I := by
    have h := Complex.exp_ofReal_mul_I (-ω)
    rw [Real.cos_neg, Real.sin_neg] at h
    push_cast at h ⊢
    rw [← neg_mul, h]; ring
  have hrect : (⟨((c0 : ℝ) + c2) * Real.cos ω + c1, ((c0 : ℝ) - c2) * Real.sin ω⟩ : ℂ) =
      c0 * Complex.exp (ω * Complex.I) + c1 + c2 * Complex.exp (-(ω * Complex.I)) := by
    rw [Complex.exp_ofReal_mul_I, hneg, Complex.mk_eq_add_mul_I]
    push_cast; ring
  rw [trinomial, hrect, hsq]
  linear_combination (-(c0 : ℂ)) * hinv

theorem trinomial_eq_zero_iff (c0 c1 c2 : ℚ) (ω : ℝ) : trinomial c0 c1 c2 ω = 0 ↔
    ((c0 : ℝ) + c2) * Real.cos ω + c1 = 0 ∧ ((c0 : ℝ) - c2) * Real.sin ω = 0 := by
  rw [trinomial_eq_exp_mul, mul_eq_zero, or_iff_right (Complex.exp_ne_zero _), Complex.ext_iff]
  rfl

@[simp] theorem gridAngle_zero (m : Nat) : gridAngle 0 m = 0 := by simp [gridAngle]

section
variable {k m : Nat}

/-- Strictly inside the grid the sine is positive. -/
theorem sin_gridAngle_pos (hk : 0 < k) (hkm : k < m) : 0 < Real.sin (gridAngle k m) := by
  have hm : (0 : ℝ) < m := by exact_mod_cast hk.trans hkm
  have hlt : (k : ℝ) < m := by exact_mod_cast hkm
  apply Real.sin_pos_of_pos_of_lt_pi
  · unfold gridAngle; positivity
  · rw [gridAngle, div_lt_iff₀ hm]
    exact mul_lt_mul_of_pos_left hlt Real.pi_pos

theorem gridAngle_of_mul_eq {a b : Nat} (ha : 0 < a) (hm : 0 < m) (h : a * k = b * m) :
    gridAngle k m = Real.pi * b / a := by
  have ha' : (a : ℝ) ≠ 0 := by exact_mod_cast ha.ne'
  have hm' : (m : ℝ) ≠ 0 := by exact_mod_cast hm.ne'
  have h' : (a : ℝ) * k = b * m := by exact_mod_cast h
  rw [gridAngle, div_eq_div_iff hm' ha']
  linear_combination Real.pi * h'

theorem cos_gridAngle_third (hm : 0 < m) (h : 3 * k = m) : Real.cos (gridAngle k m) = 1 / 2 := by
  rw [gridAngle_of_mul_eq (b := 1) three_pos hm (by omega), ← Real.cos_pi_div_three]
  norm_num

theorem cos_gridAngle_half (hm : 0 < m) (h : 2 * k = m) : Real.cos (gridAngle k m) = 0 := by
  rw [gridAngle_of_mul_eq (b := 1) two_pos hm (by omega), ← Real.cos_pi_div_two]
  norm_num

theorem cos_gridAngle_two_thirds (hm : 0 < m) (h : 3 * k = 2 * m) : Real.cos (gridAngle k m) = -(1 / 2) := by
  rw [gridAngle_of_mul_eq (b := 2) three_pos hm h, ← Real.cos_pi_div_three, ← Real.cos_pi_sub]
  congr 1; push_cast; ring

/-- Niven's theorem on the grid: strictly inside it the cosine is rational at the thirds and at the half only. -/
theorem cos_gridAngle_rational (hk : 0 < k) (hkm : k < m) {q : ℚ} (h : Real.cos (gridAngle k m) = q) :
    3 * k = m ∨ 2 * k = m ∨ 3 * k = 2 * m := by
  have hm : (0 : ℚ) < m := by exact_mod_cast hk.trans hkm
  have hk' : (0 : ℚ) < k := by exact_mod_cast hk
  have hlt : (k : ℚ) < m := by exact_mod_cast hkm
  have hangle : gridAngle k m = ((k / m : ℚ) : ℝ) * Real.pi := by
    rw [gridAngle]; push_cast; ring
  have hniven := niven_angle_div_pi_eq ⟨q, hangle ▸ h⟩ ⟨by positivity, (div_le_one hm).2 hlt.le⟩
  simp only [Set.mem_insert_iff, Set.mem_singleton_iff] at hniven
  obtain h0 | h3 | h2 | h23 | h1 := hniven
  · exact absurd h0 (div_pos hk' hm).ne'
  · left
    field_simp at h3
    exact_mod_cast (by linarith : (3 : ℚ) * k = m)
  · right; left
    field_simp at h2
    exact_mod_cast (by linarith : (2 : ℚ) * k = m)
  · right; right
    field_simp at h23
    exact_mod_cast (by linarith : (3 : ℚ) * k = 2 * m)
  · exact absurd h1 ((div_lt_one hm).2 hlt).ne

/-- Where the imaginary part vanishes strictly inside the grid (`c0 = c2`), the real part does so in the model's four
cases. -/
theorem two_mul_cos_gridAngle_add_eq_zero_iff (hk : 0 < k) (hkm : k < m) (c0 c1 : ℚ) :
    ((c0 : ℝ) + c0) * Real.cos (gridAngle k m) + c1 = 0 ↔
      c0 = 0 ∧ c1 = 0 ∨ 3 * k = m ∧ c1 = -c0 ∨ 2 * k = m ∧ c1 = 0 ∨ 3 * k = 2 * m ∧ c1 = c0 := by
  have hm : 0 < m := hk.trans hkm
  constructor
  · intro h
    by_cases hc : c0 = 0
    · subst hc
      exact .inl ⟨rfl, by simpa using h⟩
    have hc' : (c0 : ℝ) ≠ 0 := by exact_mod_cast hc
    have hcos : Real.cos (gridAngle k m) = ((-c1 / (2 * c0) : ℚ) : ℝ) := by
      push_cast
      field_simp
      linarith
    obtain h3 | h2 | h23 := cos_gridAngle_rational hk hkm hcos
    · rw [cos_gridAngle_third hm h3] at h
      exact .inr (.inl ⟨h3, by exact_mod_cast (by linarith : (c1 : ℝ) = -c0)⟩)
    · rw [cos_gridAngle_half hm h2] at h
      exact .inr (.inr (.inl ⟨h2, by simpa using h⟩))
    · rw [cos_gridAngle_two_thirds hm h23] at h
      exact .inr (.inr (.inr ⟨h23, by exact_mod_cast (by linarith : (c1 : ℝ) = c0)⟩))
  · rintro (⟨rfl, rfl⟩ | ⟨h3, rfl⟩ | ⟨h2, rfl⟩ | ⟨h23, rfl⟩)
    · simp
    · rw [cos_gridAngle_third hm h3]; push_cast; ring
    · rw [cos_gridAngle_half hm h2]; simp
    · rw [cos_gridAngle_two_thirds hm h23]; ring

/-- R141, R144, R146: the model's exact test decides the zeros of the complex trinomial on the grid. -/
theorem vanishesAt_iff_trinomial_eq_zero (c0 c1 c2 : ℚ) (hkm : k < m) :
    vanishesAt c0 c1 c2 k m = true ↔ trinomial c0 c1 c2 (gridAngle k m) = 0 := by
  rw [trinomial_eq_zero_iff]
  obtain rfl | hk := Nat.eq_zero_or_pos k
  · have hcast : ((c0 : ℝ) + c2) + c1 = 0 ↔ c0 + c1 + c2 = 0 := by
      rw [add_right_comm]; exact_mod_cast Iff.rfl
    simp [vanishesAt, hcast]
  · have hsin : ((c0 : ℝ) - c2) * Real.sin (gridAngle k m) = 0 ↔ c0 = c2 := by
      rw [mul_eq_zero, or_iff_left (sin_gridAngle_pos hk hkm).ne', sub_eq_zero, Rat.cast_inj]
    rw [hsin, vanishesAt, if_neg hk.ne', and_comm]
    simp only [Bool.and_eq_true, Bool.or_eq_true, decide_eq_true_iff, or_assoc]
    refine and_congr_right ?_
    rintro rfl
    exact (two_mul_cos_gridAngle_add_eq_zero_iff hk hkm c0 c1).symm

end

/-! ### The transfer function of a section and of a cascade -/

section
variable {s : RealBiquad} {ss rs : List RealBiquad} {ω : ℝ}

@[simp] theorem cascadeTransfer_nil : cascadeTransfer [] ω = 1 := rfl

@[simp] theorem cascadeTransfer_cons : cascadeTransfer (s :: ss) ω = transfer s ω * cascadeTransfer ss ω := by
  simp [cascadeTransfer]

@[simp] theorem cascadeTransfer_append :
    cascadeTransfer (ss ++ rs) ω = cascadeTransfer ss ω * cascadeTransfer rs ω := by
  simp [cascadeTransfer]

theorem cascadeTransfer_eq_zero_iff : cascadeTransfer ss ω = 0 ↔ ∃ s ∈ ss, transfer s ω = 0 := by
  simp [cascadeTransfer, List.prod_eq_zero_iff]

theorem transfer_eq_zero_iff (hd : denominator s ω ≠ 0) : transfer s ω = 0 ↔ numerator s ω = 0 := by
  rw [transfer, div_eq_zero_iff, or_iff_left hd]

/-- R153: a flat section's numerator is its denominator. -/
theorem transfer_of_flatSection (hflat : flatSection s = true) (hd : denominator s ω ≠ 0) : transfer s ω = 1 := by
  simp only [flatSection, Bool.and_eq_true, decide_eq_true_iff] at hflat
  obtain ⟨⟨h0, h1⟩, h2⟩ := hflat
  have hnum : numerator s ω = denominator s ω := by rw [numerator, denominator, h0, h1, h2]
  rw [transfer, hnum, div_self hd]

/-- R153: the flat sections may be left out of a cascade. -/
theorem cascadeTransfer_filter_not_flatSection (hd : ∀ s ∈ ss, denominator s ω ≠ 0) :
    cascadeTransfer (ss.filter fun s => !flatSection s) ω = cascadeTransfer ss ω := by
  induction ss with
  | nil => rfl
  | cons s ss ih =>
    obtain ⟨hs, hss⟩ := List.forall_mem_cons.1 hd
    cases hflat : flatSection s with
    | false => simp [hflat, ih hss]
    | true => simp [hflat, ih hss, transfer_of_flatSection hflat hs]

end

/-! ### Magnitude and phase -/

@[simp] theorem magnitudeDb_one : magnitudeDb 1 = 0 := by simp [magnitudeDb]

@[simp] theorem phaseDegrees_one : phaseDegrees 1 = 0 := by simp [phaseDegrees]

theorem phaseDegrees_mem_Ioc (H : ℂ) : -180 < phaseDegrees H ∧ phaseDegrees H ≤ 180 := by
  have hlo := Complex.neg_pi_lt_arg H
  have hhi := Complex.arg_le_pi H
  rw [phaseDegrees, lt_div_iff₀ Real.pi_pos, div_le_iff₀ Real.pi_pos]
  constructor <;> linarith

section
variable {z w : ℂ}

theorem magnitudeDb_mul (hz : z ≠ 0) (hw : w ≠ 0) : magnitudeDb (z * w) = magnitudeDb z + magnitudeDb w := by
  rw [magnitudeDb, norm_mul, Real.logb_mul (norm_ne_zero_iff.2 hz) (norm_ne_zero_iff.2 hw), mul_add]
  rfl

/-- The argument of a product is the sum of the arguments up to whole turns. -/
theorem phaseDegrees_mul (hz : z ≠ 0) (hw : w ≠ 0) :
    ∃ n : ℤ, phaseDegrees (z * w) = phaseDegrees z + phaseDegrees w + 360 * n := by
  have hangle := Complex.arg_mul_coe_angle hz hw
  rw [← Real.Angle.coe_add, Real.Angle.angle_eq_iff_two_pi_dvd_sub] at hangle
  obtain ⟨n, hn⟩ := hangle
  refine ⟨n, ?_⟩
  have hpi := Real.pi_ne_zero
  rw [phaseDegrees, phaseDegrees, phaseDegrees, eq_add_of_sub_eq hn]
  field_simp
  ring

end

section
variable {ss : List RealBiquad} {ω : ℝ}

theorem cascadeTransfer_ne_zero (h : ∀ s ∈ ss, transfer s ω ≠ 0) : cascadeTransfer ss ω ≠ 0 :=
  mt cascadeTransfer_eq_zero_iff.1 fun ⟨s, hs, hzero⟩ => h s hs hzero

theorem magnitudeDb_cascadeTransfer (h : ∀ s ∈ ss, transfer s ω ≠ 0) :
    magnitudeDb (cascadeTransfer ss ω) = (ss.map fun s => magnitudeDb (transfer s ω)).sum := by
  induction ss with
  | nil => simp
  | cons s ss ih =>
    obtain ⟨hs, hss⟩ := List.forall_mem_cons.1 h
    simp [magnitudeDb_mul hs (cascadeTransfer_ne_zero hss), ih hss]

theorem phaseDegrees_cascadeTransfer (h : ∀ s ∈ ss, transfer s ω ≠ 0) : ∃ n : ℤ,
    phaseDegrees (cascadeTransfer ss ω) = (ss.map fun s => phaseDegrees (transfer s ω)).sum + 360 * n := by
  induction ss with
  | nil => exact ⟨0, by simp⟩
  | cons s ss ih =>
    obtain ⟨hs, hss⟩ := List.forall_mem_cons.1 h
    obtain ⟨n, hn⟩ := ih hss
    obtain ⟨j, hj⟩ := phaseDegrees_mul hs (cascadeTransfer_ne_zero hss)
    refine ⟨n + j, ?_⟩
    rw [cascadeTransfer_cons, hj, hn, List.map_cons, List.sum_cons]
    push_cast
    ring

end

/-! ### The response in exact arithmetic -/

theorem exactFails_iff (ss : List RealBiquad) (m : Nat) : exactFails ss m = true ↔ EvaluationFails ss m := by
  simp only [exactFails, EvaluationFails, List.any_eq_true, List.mem_range]
  refine exists_congr fun s => and_congr_right fun _ => exists_congr fun k => and_congr_right fun hk => ?_
  exact vanishesAt_iff_trinomial_eq_zero 1 s.a1 s.a2 hk

section
variable {ss : List RealBiquad} {k m : Nat}

/-- R147: where no denominator vanishes, the cascade's zeros on the grid are those of the sections' numerators. -/
theorem any_numerator_vanishesAt_iff (hk : k < m) (hd : ∀ s ∈ ss, denominator s (gridAngle k m) ≠ 0) :
    (ss.any fun s => vanishesAt s.b0 s.b1 s.b2 k m) = true ↔ cascadeTransfer ss (gridAngle k m) = 0 := by
  rw [List.any_eq_true, cascadeTransfer_eq_zero_iff]
  refine exists_congr fun s => and_congr_right fun hs => ?_
  rw [transfer_eq_zero_iff (hd s hs)]
  exact vanishesAt_iff_trinomial_eq_zero s.b0 s.b1 s.b2 hk

/-- R147, R148: the model's point names the reference's, the flat sections left out or not. -/
theorem pointOf_exactPoint (hk : k < m) (hd : ∀ s ∈ ss, denominator s (gridAngle k m) ≠ 0) :
    pointOf (exactPoint ss m k) = referencePoint ss m k := by
  unfold exactPoint referencePoint
  simp only [any_numerator_vanishesAt_iff hk hd]
  split
  · simp [pointOf, phaseOf]
  · rw [← cascadeTransfer_filter_not_flatSection hd]
    split
    case h_1 hlive => simp [hlive, pointOf, magOf, phaseOf]
    case h_2 => rfl

end

theorem map_pointOf_allZeroResponse (p : Params) : (allZeroResponse p).map pointOf = List.replicate p.P (some 0, 0) := by
  simp [allZeroResponse, pointOf, magOf, phaseOf]

/-- R149: the exact response names the numbers of the reference's, failure or not. -/
theorem map_pointOf_exactResponse (p : Params) (bank : List Biquad) :
    (exactResponse p bank).map pointOf = referenceResponse p bank := by
  by_cases hfails : EvaluationFails (bank.map Biquad.real) p.M
  · rw [exactResponse, if_pos ((exactFails_iff _ _).2 hfails), referenceResponse, if_pos hfails]
    exact map_pointOf_allZeroResponse p
  · rw [exactResponse, if_neg (mt (exactFails_iff _ _).1 hfails), referenceResponse, if_neg hfails, List.map_map]
    refine List.map_congr_left fun k hk => ?_
    have hkM : k < p.M := (List.mem_range.1 hk).trans_le (min_le_right _ _)
    exact pointOf_exactPoint hkM fun s hs h0 => hfails ⟨s, hs, k, hkM, h0⟩

theorem response_flatten_of_exact {p : Params} (h : p.respArith = .exact) (bank : List Biquad) :
    response p (flatten bank) = exactResponse p bank := by
  simp only [response, h, sectionsOf_flatten]

/-! ### The identity bank -/

theorem transfer_identity (ω : ℝ) : transfer ⟨1, 0, 0, 0, 0⟩ ω = 1 :=
  transfer_of_flatSection rfl (by simp [denominator, trinomial])

theorem exactPoint_replicate_identity (n m k : Nat) :
    exactPoint (List.replicate n ⟨1, 0, 0, 0, 0⟩) m k = ⟨some (.rat 0), .rat 0⟩ := by
  have hnum : vanishesAt 1 0 0 k m = false := by simp [vanishesAt]
  have hflat : flatSection ⟨1, 0, 0, 0, 0⟩ = true := rfl
  simp [exactPoint, hnum, hflat]

/-- R151: the points of the identity bank are the failure response's own. -/
theorem exactResponse_replicate_identity (p : Params) (n : Nat) :
    exactResponse p (List.replicate n Biquad.identity) = allZeroResponse p := by
  have hpoint : exactPoint (List.replicate n ⟨1, 0, 0, 0, 0⟩) p.M = fun _ => ⟨some (.rat 0), .rat 0⟩ :=
    funext (exactPoint_replicate_identity n p.M)
  unfold exactResponse
  split
  · rfl
  · simp [hpoint, allZeroResponse]

/-! ### What TICK_RESPONSE publishes, in any arithmetic -/

@[simp] theorem response_length (p : Params) (ws : List Word) : (response p ws).length = p.P := by
  unfold response exactResponse
  split <;> split <;> simp

/-- R27: a legal name is that of a number in `(-180, 180]`. -/
theorem phaseOf_mem_Ioc_of_legal {ph : RespPhase} (h : ph.legal = true) : -180 < phaseOf ph ∧ phaseOf ph ≤ 180 := by
  cases ph with
  | rat q =>
    simp only [RespPhase.legal, Bool.and_eq_true, decide_eq_true_iff] at h
    obtain ⟨hlo, hhi⟩ := h
    rw [phaseOf]
    exact ⟨by exact_mod_cast hlo, by exact_mod_cast hhi⟩
  | phaseDeg ss k m => exact phaseDegrees_mem_Ioc _
  | free i => exact phaseDegrees_mem_Ioc _

theorem legal_of_mem_allZeroResponse {p : Params} {r : RespPoint} (h : r ∈ allZeroResponse p) : r.ph.legal = true := by
  rw [List.eq_of_mem_replicate h]
  rfl

theorem exactPoint_legal (ss : List RealBiquad) (m k : Nat) : (exactPoint ss m k).ph.legal = true := by
  unfold exactPoint
  split
  · rfl
  · split <;> rfl

theorem legalPoint_legal (r : RespPoint) : (legalPoint r).ph.legal = true := by
  unfold legalPoint
  split
  next h => exact h
  · rfl

theorem legal_of_mem_response {p : Params} {ws : List Word} {r : RespPoint} (h : r ∈ response p ws) :
    r.ph.legal = true := by
  unfold response exactResponse at h
  split at h <;> split at h
  case h_1.isTrue | h_2.isTrue => exact legal_of_mem_allZeroResponse h
  case h_1.isFalse =>
    obtain ⟨k, -, rfl⟩ := List.mem_map.1 h
    exact exactPoint_legal _ _ k
  case h_2.isFalse =>
    obtain ⟨k, -, rfl⟩ := List.mem_map.1 h
    exact legalPoint_legal _

theorem exec_tickResponse_of_clean {s : State} (h : s.respSnap = some (flatten s.bank)) :
    exec .tickResponse s = .next (s.rescheduleResp.answer .none) :=
  congrArg _ (if_pos h)

theorem exec_tickResponse_of_dirty {s : State} (h : s.respSnap ≠ some (flatten s.bank)) :
    exec .tickResponse s = .next (s.publish.rescheduleResp.answer .none) :=
  congrArg _ (if_neg h)

end Machine

open Machine

/-- Settles O12, one case of TICK_RESPONSE a clause; the points' phases are legal names in every arithmetic. -/
theorem tickResponseComputesWhenDirty : Obligations.TickResponseComputesWhenDirty := by
  refine ⟨fun p ws => ⟨response_length p ws, fun _ hr => phaseOf_mem_Ioc_of_legal (legal_of_mem_response hr)⟩, ?_⟩
  rintro s snap rfl
  exact ⟨fun h => ⟨_, exec_tickResponse_of_clean h, rfl⟩, fun h => ⟨_, exec_tickResponse_of_dirty h, rfl⟩⟩

/-- Settles O14: the model's test finds the zeros of the complex trinomials, and flat sections contribute nothing. -/
theorem exactResponseIsTheReference : Obligations.ExactResponseIsTheReference := by
  intro p bank hexact
  rw [response_flatten_of_exact hexact, map_pointOf_exactResponse]

/-- Settles O15: the reference's part is what the published data name. -/
theorem identityBankIsFlat : Obligations.IdentityBankIsFlat := by
  refine fun p n => ⟨fun ω => ?_, ?_, fun hexact => ?_⟩
  · simp [cascadeTransfer, transfer_identity]
  · rw [← map_pointOf_exactResponse, exactResponse_replicate_identity, map_pointOf_allZeroResponse]
  · rw [response_flatten_of_exact hexact, exactResponse_replicate_identity]

/-- Settles O16, by induction along the cascade, for magnitudes and for phases. -/
theorem magnitudesAndPhasesAdd : Obligations.MagnitudesAndPhasesAdd := by
  intro ss ω h
  have hne : ∀ s ∈ ss, transfer s ω ≠ 0 := fun s hs => (h s hs).2
  exact ⟨magnitudeDb_cascadeTransfer hne, phaseDegrees_cascadeTransfer hne, phaseDegrees_mem_Ioc _⟩

/-- Settles O17, from the section's transfer function 1. -/
theorem flatSectionContributesNothing : Obligations.FlatSectionContributesNothing := by
  intro ss rs a1 a2 ω hd
  have hone : transfer ⟨1, a1, a2, a1, a2⟩ ω = 1 := transfer_of_flatSection (by simp [flatSection]) hd
  exact ⟨hone, by simp [hone]⟩

end Sys2Proof
end

/-! # Proofs of the family 43_packetizer: the fragment plan, its frames at the device's decoder and put together
again, and what UPLOAD appends -/
section

namespace Sys2Proof

/-! ### A frame read from its bytes -/

section
variable {p : Params} {si term : Byte} {data : List Word}

/-- R85, R89: the link's decoder reads a legal frame back, of the kind its terminator selects. -/
theorem decodeLink_frameBytes {i : Instr} (hlegal : frameLegal p si data = true)
    (hi : frameOf p si (bytesOf data) term = some i) (rest : List Byte) :
    decodeLink p (frameBytes si data term ++ rest) = .ok i rest := by
  obtain ⟨hpos, hle, hfit⟩ := (frameLegal_iff p si data).1 hlegal
  have hpc : (BitVec.ofNat 8 data.length).toNat = data.length := Nat.mod_eq_of_lt (by omega)
  have hstart : startsFrame (BitVec.ofNat 8 data.length) = true := (startsFrame_iff _).2 (by omega)
  have htake : (bytesOf data ++ term :: rest).take (4 * data.length) = bytesOf data :=
    List.take_left' (bytesOf_length data)
  have hdrop : (bytesOf data ++ term :: rest).drop (4 * data.length) = term :: rest :=
    List.drop_left' (bytesOf_length data)
  simp [frameBytes, decodeLink, hstart, hpc, decodeFrame, hfit.not_gt, htake, hdrop, hi]

theorem frameOf_termMore (p : Params) (si : Byte) (d : List Byte) :
    frameOf p si d p.termMore = some (.fragMore si (wordsOf d)) :=
  if_pos rfl

theorem frameOf_termFinal (h : p.termFinal ≠ p.termMore) (si : Byte) (d : List Byte) :
    frameOf p si d p.termFinal = some (.fragFinal si (wordsOf d)) :=
  (if_neg h).trans (if_pos rfl)

/-- R182: the floats of a frame placed at its start index. -/
def placeFrame (l : List Word) (f : List Byte) : List Word :=
  putFrom l (f.getD 1 0).toNat (wordsOf ((f.drop 2).take (4 * (f.getD 0 0).toNat)))

@[simp] theorem placeFrame_length (l : List Word) (f : List Byte) : (placeFrame l f).length = l.length :=
  putFrom_length _ _ _

theorem placeFrame_frameBytes (h : data.length < 256) (l : List Word) :
    placeFrame l (frameBytes si data term) = putFrom l si.toNat data := by
  have hpc : (BitVec.ofNat 8 data.length).toNat = data.length := Nat.mod_eq_of_lt h
  have htake : (bytesOf data ++ [term]).take (4 * data.length) = bytesOf data :=
    List.take_left' (bytesOf_length data)
  simp [placeFrame, frameBytes, hpc, htake, wordsOf_bytesOf]

@[simp] theorem foldl_placeFrame_length (fs : List (List Byte)) (l : List Word) :
    (fs.foldl placeFrame l).length = l.length := by
  induction fs generalizing l with
  | nil => rfl
  | cons f fs ih => rw [List.foldl_cons, ih, placeFrame_length]

end

namespace Machine

/-! ### The fragment plan -/

section
variable {p : Params} {k j : Nat}

theorem fragmentStart_succ (p : Params) (k : Nat) : fragmentStart p (k + 1) = fragmentStart p k + p.chunk :=
  Nat.succ_mul k p.chunk

/-- R173: the fragments are those that start inside the bank. -/
theorem lt_fragmentCount_iff (hc : 1 ≤ p.chunk) : k < fragmentCount p ↔ fragmentStart p k < p.NF := by
  rw [fragmentCount, ceilDiv, fragmentStart, ← Nat.succ_le_iff, Nat.le_div_iff_mul_le hc, Nat.succ_mul]
  omega

/-- R174, R179: fragment `k` holds flat index `j` of the bank exactly where `k` is `j div CHUNK`. -/
theorem mem_fragment_iff (hc : 1 ≤ p.chunk) :
    fragmentStart p k ≤ j ∧ j < fragmentStart p k + fragmentLength p k ↔ j < p.NF ∧ j / p.chunk = k := by
  have hdiv : j / p.chunk = k ↔ fragmentStart p k ≤ j ∧ j < fragmentStart p k + p.chunk := by
    rw [Nat.div_eq_iff hc, fragmentStart]
    omega
  rw [hdiv, fragmentLength]
  omega

/-- R174, R179: a fragment's bounds. -/
theorem fragment_bounds (hp : p.Valid) (hk : k < fragmentCount p) :
    1 ≤ fragmentLength p k ∧ fragmentLength p k ≤ p.chunk ∧ fragmentLength p k ≤ 15 ∧
      fragmentStart p k + fragmentLength p k ≤ p.NF ∧ fragmentStart p k ≤ 255 := by
  obtain ⟨-, hN, hc, hmax, -⟩ := hp
  have hchunk : p.chunk ≤ 15 := hmax
  have hNF : p.NF ≤ 256 := hN
  have hstart := (lt_fragmentCount_iff hc).1 hk
  rw [fragmentLength]
  omega

theorem fragmentTerm_eq_termFinal_iff (h : p.termFinal ≠ p.termMore) :
    fragmentTerm p k = p.termFinal ↔ k + 1 = fragmentCount p := by
  simp [fragmentTerm, h.symm]

/-- R88, R174: the last fragment's terminator makes its frame a FRAG_FINAL, the others' a FRAG_MORE. -/
theorem frameOf_fragmentTerm (h : p.termFinal ≠ p.termMore) (si : Byte) (d : List Byte) :
    frameOf p si d (fragmentTerm p k) =
      some (if k + 1 = fragmentCount p then .fragFinal si (wordsOf d) else .fragMore si (wordsOf d)) := by
  unfold fragmentTerm
  split
  · exact frameOf_termFinal h si d
  · exact frameOf_termMore p si d

/-! ### A fragment's frame -/

variable {ws : List Word}

theorem fragmentStart_toNat (hp : p.Valid) (hk : k < fragmentCount p) :
    (BitVec.ofNat 8 (fragmentStart p k)).toNat = fragmentStart p k := by
  obtain ⟨-, -, -, -, hstart⟩ := fragment_bounds hp hk
  exact Nat.mod_eq_of_lt (by omega)

theorem fragmentData_length (hp : p.Valid) (hws : ws.length = p.NF) (hk : k < fragmentCount p) :
    (fragmentData p ws k).length = fragmentLength p k := by
  obtain ⟨-, -, -, hend, -⟩ := fragment_bounds hp hk
  rw [fragmentData, List.length_take, List.length_drop]
  omega

/-- R176: the bytes of a fragment are a frame's. -/
theorem fragmentBytes_eq_frameBytes (hp : p.Valid) (hws : ws.length = p.NF) (hk : k < fragmentCount p) :
    fragmentBytes p ws k =
      frameBytes (BitVec.ofNat 8 (fragmentStart p k)) (fragmentData p ws k) (fragmentTerm p k) := by
  rw [frameBytes, fragmentData_length hp hws hk, fragmentBytes]

/-- R180: a fragment's frame is legal. -/
theorem frameLegal_fragmentData (hp : p.Valid) (hws : ws.length = p.NF) (hk : k < fragmentCount p) :
    frameLegal p (BitVec.ofNat 8 (fragmentStart p k)) (fragmentData p ws k) = true := by
  obtain ⟨hpos, -, hle, hend, -⟩ := fragment_bounds hp hk
  rw [frameLegal_iff, fragmentData_length hp hws hk, fragmentStart_toNat hp hk]
  exact ⟨hpos, hle, hend⟩

/-! ### The frames put together again -/

/-- R182: the first `k` fragments, placed in order over any words, rebuild the words sent below their end. -/
theorem foldl_placeFrame_fragments_getElem? {init : List Word} (hp : p.Valid) (hws : ws.length = p.NF)
    (hinit : init.length = p.NF) (hk : k ≤ fragmentCount p) (hj : j < p.NF) (hjk : j < fragmentStart p k) :
    (((List.range k).map (fragmentBytes p ws)).foldl placeFrame init)[j]? = ws[j]? := by
  induction k with
  | zero => simp [fragmentStart] at hjk
  | succ k ih =>
    have hdata := fragmentData_length hp hws hk
    obtain ⟨-, -, hmax, hend, -⟩ := fragment_bounds hp hk
    have hlen : (fragmentData p ws k).length < 256 := by omega
    rw [List.range_succ, List.map_append, List.foldl_append, List.map_singleton, List.foldl_cons, List.foldl_nil,
      fragmentBytes_eq_frameBytes hp hws hk, placeFrame_frameBytes hlen, fragmentStart_toNat hp hk,
      putFrom_getElem? _ _ _ _ (by rw [foldl_placeFrame_length]; omega)]
    split
    next hin =>
      obtain ⟨hlo, hhi⟩ := hin
      rw [fragmentData, List.getElem?_take_of_lt (by omega), List.getElem?_drop, Nat.add_sub_cancel' hlo]
    next hout =>
      have hbelow : j < fragmentStart p k := by
        rw [fragmentStart_succ] at hjk
        rw [hdata, fragmentLength] at hout
        omega
      exact ih (by omega) hbelow

/-- R182: all fragments placed over any `NF` words give the words sent. -/
theorem foldl_placeFrame_transferFrames {init : List Word} (hp : p.Valid) (hws : ws.length = p.NF)
    (hinit : init.length = p.NF) : (transferFrames p ws).foldl placeFrame init = ws := by
  have ⟨_, _, hc, _⟩ := hp
  have hlen := foldl_placeFrame_length (transferFrames p ws) init
  refine List.ext_getElem? fun j => ?_
  obtain hj | hj := lt_or_ge j p.NF
  · have hend : p.NF ≤ fragmentStart p (fragmentCount p) :=
      not_lt.1 fun h => lt_irrefl _ ((lt_fragmentCount_iff hc).2 h)
    exact foldl_placeFrame_fragments_getElem? hp hws hinit le_rfl hj (hj.trans_le hend)
  · rw [List.getElem?_eq_none (by omega), List.getElem?_eq_none (by omega)]

end

/-! ### A write that fails, or does not -/

theorem writeFailure_eq_none {draw : Option Nat} {len : Nat} (h : ∀ n, draw = some n → len ≤ n) :
    writeFailure draw len = none := by
  cases draw with
  | none => rfl
  | some n => exact if_neg (h n rfl).not_gt

theorem writeFailure_eq_some {draw : Option Nat} {n len : Nat} (hdraw : draw = some n) (h : n < len) :
    writeFailure draw len = some n := by
  rw [hdraw]
  exact if_pos h

/-- R213: byte `n` of the messages is on a boundary exactly where the first few of them make up `n` bytes. -/
theorem onBoundary_iff (ms : List (List Byte)) (n : Nat) :
    onBoundary ms n = true ↔ ∃ k, n = (ms.take k).flatten.length := by
  induction ms generalizing n with
  | nil => cases n <;> simp [onBoundary]
  | cons m ms ih =>
    cases n with
    | zero => exact iff_of_true rfl ⟨0, rfl⟩
    | succ n =>
      rw [onBoundary, Bool.and_eq_true, decide_eq_true_iff, ih]
      constructor
      · rintro ⟨hm, k, hk⟩
        refine ⟨k + 1, ?_⟩
        rw [List.take_succ_cons, List.flatten_cons, List.length_append]
        omega
      · rintro ⟨_ | k, hk⟩
        · cases hk
        · rw [List.take_succ_cons, List.flatten_cons, List.length_append] at hk
          exact ⟨by omega, k, by omega⟩

section
variable {s : State} {port : Port} {n : Nat}

/-- R213: a cut write changes nothing but the device's fault record, and that off the boundaries only. -/
theorem State.cutAt_eq (ms : List (List Byte)) : s.cutAt ms n =
    { s with devFault := if onBoundary ms n then s.devFault else s.devFault.insert .desync } := by
  unfold State.cutAt
  split <;> rfl

theorem exec_upload_of_closed (h : s.link = .closed) :
    exec .upload s = .next (s.raise 0x10 .linkUnavailableError .none) := by
  simp only [exec, execUpload, h]

theorem exec_upload_of_opened (h : s.link = .opened port) :
    exec .upload s = .next (s.transmit 0x10 (transferFrames s.par (devWords s.bank))) := by
  simp only [exec, execUpload, h]

/-- R175, R232: an UPLOAD whose write does not fail, the whole state after it. -/
theorem exec_upload_of_success (hopen : s.link = .opened port)
    (hdraw : ∀ n, s.writeDraw = some n → (transferFrames s.par (devWords s.bank)).flatten.length ≤ n) :
    exec .upload s = .next { s with
      h2d := s.h2d ++ (transferFrames s.par (devWords s.bank)).flatten
      resp := some ⟨.ok, .none⟩ } := by
  rw [exec_upload_of_opened hopen, State.transmit_ok _ _ _ (writeFailure_eq_none hdraw)]

/-- R184, R213, R233: an UPLOAD whose write fails after `n` bytes, the whole state after it. -/
theorem exec_upload_of_failure (hopen : s.link = .opened port) (hdraw : s.writeDraw = some n)
    (hn : n < (transferFrames s.par (devWords s.bank)).flatten.length) :
    exec .upload s = .next { s with
      h2d := s.h2d ++ (transferFrames s.par (devWords s.bank)).flatten.take n
      resp := some ⟨.transmissionError, .none⟩
      diag := s.diag ++ [⟨0x10, .transmissionError, .delivered n⟩]
      devFault := if onBoundary (transferFrames s.par (devWords s.bank)) n then s.devFault
        else s.devFault.insert .desync } := by
  rw [exec_upload_of_opened hopen, State.transmit_fail _ _ _ n (writeFailure_eq_some hdraw hn), State.cutAt_eq]
  rfl

end
end Machine

open Machine

/-- Settles O25: the fragments placed one after the other rebuild the words sent, by induction on their number, and the
sign flip undoes itself. -/
theorem reassemblyIsBitExact : Obligations.ReassemblyIsBitExact := by
  intro p bank init hp hbank hinit rebuilt hfold
  have hws : (devWords bank).length = p.NF := by rw [devWords_length, hbank, Params.NF]
  have hrebuilt : rebuilt = devWords bank := hfold.trans (foldl_placeFrame_transferFrames hp hws hinit)
  refine ⟨hrebuilt, ?_⟩
  rw [hrebuilt, devWords, sectionsOf_flatten, List.map_map, Biquad.toDevice_involutive.comp_self, List.map_id]

/-- Settles O23: flat index `j` lies in fragment `j div CHUNK` alone. -/
theorem fragmentsPartitionTheBank : Obligations.FragmentsPartitionTheBank := by
  intro p hp
  have ⟨_, _, hc, _, hterm, _⟩ := hp
  refine ⟨fun j hj => ?_, fun k hk => ?_⟩
  · obtain ⟨hlo, hhi⟩ := (mem_fragment_iff hc).2 ⟨hj, rfl⟩
    refine ⟨j / p.chunk, ⟨(lt_fragmentCount_iff hc).2 (hlo.trans_lt hj), hlo, hhi⟩, ?_⟩
    rintro k ⟨-, hmem⟩
    exact ((mem_fragment_iff hc).1 hmem).2.symm
  · obtain ⟨hpos, hchunk, hmax, hend, hstart⟩ := fragment_bounds hp hk
    exact ⟨hpos, hchunk, hmax, hend, hstart, fragmentTerm_eq_termFinal_iff hterm⟩

/-- Settles O24: a fragment's frame is legal, and its terminator selects its kind. -/
theorem uploadedFramesAreLegal : Obligations.UploadedFramesAreLegal := by
  intro p ws k rest hp hws hk
  have ⟨_, _, _, _, hterm, _⟩ := hp
  have hlegal := frameLegal_fragmentData hp hws hk
  refine ⟨_, ?_, ?_, rfl⟩
  · rw [fragmentBytes_eq_frameBytes hp hws hk]
    refine decodeLink_frameBytes hlegal ?_ rest
    rw [frameOf_fragmentTerm hterm, wordsOf_bytesOf]
  · split
    · exact hlegal
    · exact hlegal

/-- Settles O20: the statement's frames are the plan's, and the write of them all fails, or does not. -/
theorem uploadAppendsTheTransfer : Obligations.UploadAppendsTheTransfer := by
  rintro s port _ frame rfl hframe
  obtain rfl : frame = fragmentBytes s.par (devWords s.bank) := funext hframe
  refine ⟨exec_upload_of_closed, exec_upload_of_success, fun n hopen hdraw hn => ?_⟩
  exact ⟨_, exec_upload_of_failure hopen hdraw hn, rfl⟩

/-- Settles O21: the write's prefix, and R213's fault by the messages' boundaries. -/
theorem failedUploadLeavesItsPrefix : Obligations.FailedUploadLeavesItsPrefix := by
  rintro s port n _ rfl hopen hdraw hn
  refine ⟨_, exec_upload_of_failure hopen hdraw hn, rfl, fun hk => ?_, fun hk => ?_⟩
  · exact if_pos ((onBoundary_iff _ n).2 hk)
  · exact if_neg fun hb => not_exists.2 hk ((onBoundary_iff _ n).1 hb)

end Sys2Proof
end

/-! # Proofs of the family 44_device_receiver: one byte at the receiver, what a frame does to the buffer, and the run
over a whole transfer -/
section

namespace Sys2Proof
namespace Machine

/-! ### Buffer and commit -/

section
variable {s : State} {si : Byte} {data : List Word}

theorem exec_fragMore_of_legal (hlegal : frameLegal s.par si data = true) :
    exec (.fragMore si data) s = .next ((s.bufferFrame si data).setRx .idle) :=
  congrArg Host.Outcome.next (if_pos hlegal)

theorem exec_fragFinal_of_legal (hlegal : frameLegal s.par si data = true) :
    exec (.fragFinal si data) s = .next ((s.bufferFrame si data).commit.setRx .idle) :=
  congrArg Host.Outcome.next (if_pos hlegal)

/-- R207: a legal frame's words stand from its start index on, every other word is as it was. -/
theorem State.bufferFrame_devShadow_getElem? (hlegal : frameLegal s.par si data = true)
    (hlen : s.devShadow.length = s.par.NF) (j : Nat) :
    (s.bufferFrame si data).devShadow[j]? =
      if si.toNat ≤ j ∧ j < si.toNat + data.length then data[j - si.toNat]? else s.devShadow[j]? := by
  obtain ⟨-, -, hfit⟩ := (frameLegal_iff _ _ _).1 hlegal
  exact putFrom_getElem? _ _ _ _ (hlen ▸ hfit)

/-- R207: a legal frame sets its words' mask bits and leaves every other bit. -/
theorem State.bufferFrame_devWmask_getElem? (hlegal : frameLegal s.par si data = true)
    (hlen : s.devWmask.length = s.par.NF) (j : Nat) :
    (s.bufferFrame si data).devWmask[j]? =
      if si.toNat ≤ j ∧ j < si.toNat + data.length then some true else s.devWmask[j]? := by
  obtain ⟨-, -, hfit⟩ := (frameLegal_iff _ _ _).1 hlegal
  rw [State.bufferFrame_devWmask, putFrom_getElem? _ _ _ _ (by rwa [List.length_map, hlen]), List.length_map]
  split
  next hin => rw [List.getElem?_map, List.getElem?_eq_getElem (by omega), Option.map_some]
  next => rfl

/-- R209: a word written since the last commit becomes active. -/
theorem State.commit_devActive_getElem? {j : Nat} (hlen : s.devShadow.length = s.par.NF) (hj : j < s.par.NF)
    (hmask : s.devWmask[j]? = some true) : s.commit.devActive[j]? = s.devShadow[j]? := by
  simp [State.committedWord, List.getD_eq_getElem?_getD, hmask, hj, hlen]

end

/-! ### One byte -/

section
variable {s : State} {es : List Event} {b : Byte} {rest : List Byte}

/-- R200: DEV_RX takes one byte, and what its parse state makes of it follows. -/
theorem step_devRx {o : RxOut} (hin : s.inbox = .devRx :: es) (hfault : s.devFault = []) (hq : s.h2d = b :: rest)
    (ho : rxAccept s.par s.devRx b = o) :
    step s = rxFinish o { s with inbox := es, pos := s.pos + 1, h2d := rest } := by
  simp [step, State.nextEvent, hin, deliver, devRxStep, hfault, hq, State.popEvent, ho]

theorem step_devRx_desync (hin : s.inbox = .devRx :: es) (hfault : s.devFault = []) (hq : s.h2d = b :: rest)
    (ho : rxAccept s.par s.devRx b = .desync) :
    step s = .next { s with inbox := es, pos := s.pos + 1, h2d := rest, devFault := [.desync] } := by
  rw [step_devRx hin hfault hq ho, rxFinish, State.recordFault, hfault]
  rfl

end

section
variable {p : Params} {b : Byte}

theorem rxAccept_idle_of_startsFrame (hb : startsFrame b = true) : rxAccept p .idle b = .goto (.gotPc b.toNat) :=
  if_pos hb

theorem rxAccept_idle_of_autoeq {cs : List Byte} (hb : ¬startsFrame b = true) (hseq : p.autoeqSeq = some (b :: cs)) :
    rxAccept p .idle b = if cs = [] then .run .autoeqCmd else .goto (.seq 1) := by
  simp [rxAccept, rxIdle, hb, hseq]

theorem rxAccept_idle_of_other (hb : ¬startsFrame b = true) (hseq : ∀ cs, p.autoeqSeq ≠ some (b :: cs)) :
    rxAccept p .idle b = .desync := by
  rw [rxAccept, rxIdle, if_neg hb]
  split
  next a cs ha => exact if_neg fun hba : b = a => hseq cs (hba ▸ ha)
  next => rfl

theorem rxAccept_gotPc_of_le {pc : Nat} (h : b.toNat + pc ≤ p.NF) : rxAccept p (.gotPc pc) b = .goto (.data pc b []) :=
  if_pos h

theorem rxAccept_gotPc_of_lt {pc : Nat} (h : p.NF < b.toNat + pc) : rxAccept p (.gotPc pc) b = .desync :=
  if_neg h.not_ge

theorem rxAccept_data (p : Params) (pc : Nat) (si : Byte) (d : List Byte) (b : Byte) :
    rxAccept p (.data pc si d) b =
      .goto (if d.length + 1 = 4 * pc then .awaitTerm pc si (d ++ [b]) else .data pc si (d ++ [b])) := by
  rw [rxAccept, List.length_append, List.length_singleton, apply_ite RxOut.goto]

theorem rxAccept_awaitTerm_of_frameOf {pc : Nat} {si : Byte} {d : List Byte} {i : Instr}
    (hi : frameOf p si d b = some i) : rxAccept p (.awaitTerm pc si d) b = .run i := by
  rw [rxAccept, hi]

theorem rxAccept_awaitTerm_of_other {pc : Nat} {si : Byte} {d : List Byte} (hmore : b ≠ p.termMore)
    (hfinal : b ≠ p.termFinal) : rxAccept p (.awaitTerm pc si d) b = .desync := by
  simp [rxAccept, frameOf, hmore, hfinal]

theorem rxAccept_seq_of_match {q : List Byte} {m : Nat} (hseq : p.autoeqSeq = some q) (hb : q[m]? = some b) :
    rxAccept p (.seq m) b = if m + 1 = q.length then .run .autoeqCmd else .goto (.seq (m + 1)) := by
  simp only [rxAccept, rxSeq, hseq, hb, if_true]

theorem rxAccept_seq_of_break {q : List Byte} {m : Nat} (hseq : p.autoeqSeq = some q) (hb : q[m]? ≠ some b) :
    rxAccept p (.seq m) b = .desync := by
  simp only [rxAccept, rxSeq, hseq, hb, if_false]

end

/-! ### Bytes that complete no message -/

/-- The parse state that a byte leads to, unless it completes a message or loses the framing. -/
def RxOut.goto? : RxOut → Option RxState
  | .goto st => some st
  | _ => none

/-- The parse state that bytes inside one message lead to; `none` where one of them completes a message or loses the
framing. -/
def rxCollect (p : Params) (st : RxState) (bs : List Byte) : Option RxState :=
  bs.foldlM (fun st b => (rxAccept p st b).goto?) st

section
variable {p : Params} {st st' : RxState} {b : Byte} {bs cs : List Byte}

theorem RxOut.goto?_eq_some {o : RxOut} : o.goto? = some st ↔ o = .goto st := by
  cases o <;> simp [RxOut.goto?]

theorem rxCollect_append : rxCollect p st (bs ++ cs) = (rxCollect p st bs).bind (rxCollect p · cs) :=
  List.foldlM_append

theorem rxCollect_cons : rxCollect p st (b :: bs) = (rxAccept p st b).goto?.bind (rxCollect p · bs) :=
  List.foldlM_cons

theorem rxCollect_cons_of_goto (h : rxAccept p st b = .goto st') : rxCollect p st (b :: bs) = rxCollect p st' bs := by
  rw [rxCollect_cons, h, RxOut.goto?, Option.bind_some]

theorem exists_rxCollect_take (h : rxCollect p st bs = some st') (k : Nat) :
    ∃ st'', rxCollect p st (bs.take k) = some st'' := by
  rw [← List.take_append_drop k bs, rxCollect_append, Option.bind_eq_some_iff] at h
  obtain ⟨st'', htake, -⟩ := h
  exact ⟨st'', htake⟩

/-- R205: data bytes are collected, whatever they are, until the frame has all of them. -/
theorem rxCollect_data {pc : Nat} {si : Byte} {d : List Byte} (hd : d.length < 4 * pc)
    (hbs : d.length + bs.length = 4 * pc) :
    rxCollect p (.data pc si d) bs = some (.awaitTerm pc si (d ++ bs)) := by
  induction bs generalizing d with
  | nil => exact absurd hbs hd.ne
  | cons b bs ih =>
    rw [List.length_cons] at hbs
    have hlen : (d ++ [b]).length = d.length + 1 := List.length_append
    rw [rxCollect_cons_of_goto (rxAccept_data p pc si d b), List.append_cons d b bs]
    split
    next hlast =>
      obtain rfl : bs = [] := List.length_eq_zero_iff.1 (by omega)
      rw [List.append_nil]
      rfl
    next hmore => exact ih (by omega) (by omega)

/-- R201 to R205: the bytes of a legal frame before its terminator. -/
theorem rxCollect_frame {si : Byte} {data : List Word} (hlegal : frameLegal p si data = true) :
    rxCollect p .idle ([BitVec.ofNat 8 data.length, si] ++ bytesOf data) =
      some (.awaitTerm data.length si (bytesOf data)) := by
  obtain ⟨hpos, hle, hfit⟩ := (frameLegal_iff p si data).1 hlegal
  have hpc : (BitVec.ofNat 8 data.length).toNat = data.length := Nat.mod_eq_of_lt (by omega)
  have hstart : startsFrame (BitVec.ofNat 8 data.length) = true := (startsFrame_iff _).2 (by omega)
  have hidle := rxAccept_idle_of_startsFrame (p := p) hstart
  rw [hpc] at hidle
  rw [List.cons_append, rxCollect_cons_of_goto hidle, List.cons_append,
    rxCollect_cons_of_goto (rxAccept_gotPc_of_le hfit)]
  refine rxCollect_data ?_ ?_
  · rw [List.length_nil]
    omega
  · rw [List.length_nil, List.nil_append, bytesOf_length, Nat.zero_add]

end

/-! ### Runs of DEV_RX -/

theorem run_add {M : Host.Core} {s t : M.State} {m : Nat} (h : M.run m s = .next t) (n : Nat) :
    M.run (m + n) s = M.run n t := by
  induction m generalizing s with
  | zero =>
    cases h
    rw [Nat.zero_add]
  | succ m ih =>
    rw [Nat.add_right_comm]
    rw [Host.Core.run] at h ⊢
    split at h
    next u hu => exact ih h
    next => cases h
    next => cases h

theorem run_one {M : Host.Core} (s : M.State) : M.run 1 s = M.step s := by
  rw [Host.Core.run]
  cases M.step s <;> rfl

/-- What a run of DEV_RX over some bytes starts from (R200): no fault, those bytes first in `H2D`, and as many steps of
DEV_RX next. -/
structure State.Receives (s : State) (bs rest : List Byte) (es : List Event) : Prop where
  noFault : s.devFault = []
  queued : s.h2d = bs ++ rest
  stepsNext : s.inbox = List.replicate bs.length .devRx ++ es

/-- What the run leaves of the queue and of the steps. -/
def State.received (s : State) (bs rest : List Byte) (es : List Event) : State :=
  { s with h2d := rest, inbox := es, pos := s.pos + bs.length }

section
variable {s : State} {b : Byte} {bs cs rest : List Byte} {es : List Event} {st : RxState}

theorem State.Receives.left (h : s.Receives (bs ++ cs) rest es) :
    s.Receives bs (cs ++ rest) (List.replicate cs.length .devRx ++ es) := by
  obtain ⟨hfault, hq, hin⟩ := h
  refine ⟨hfault, by rw [hq, List.append_assoc], ?_⟩
  rw [hin, List.length_append, ← List.replicate_append_replicate, List.append_assoc]

theorem State.Receives.right (h : s.Receives (bs ++ cs) rest es) (st : RxState) :
    ((s.received bs (cs ++ rest) (List.replicate cs.length .devRx ++ es)).setRx st).Receives cs rest es :=
  ⟨h.noFault, rfl, rfl⟩

/-- R200: the byte that comes next, at the rule of the parse state. -/
theorem run_one_of_receives {o : RxOut} (h : s.Receives [b] rest es) (ho : rxAccept s.par s.devRx b = o) :
    core.run 1 s = rxFinish o (s.received [b] rest es) :=
  (run_one (M := core) s).trans (step_devRx h.stepsNext h.noFault h.queued ho)

theorem State.received_setRx_received {fs : List Event} :
    ((s.received bs (cs ++ rest) fs).setRx st).received cs rest es = (s.received (bs ++ cs) rest es).setRx st := by
  simp [State.received, State.setRx, Nat.add_assoc]

/-- R200 to R205, R211: bytes that complete no message change the parse state alone. -/
theorem run_of_rxCollect (h : s.Receives bs rest es) (hst : rxCollect s.par s.devRx bs = some st) :
    core.run bs.length s = .next ((s.received bs rest es).setRx st) := by
  induction bs generalizing s with
  | nil =>
    obtain ⟨-, rfl, rfl⟩ := h
    cases hst
    rfl
  | cons b bs ih =>
    rw [rxCollect_cons, Option.bind_eq_some_iff] at hst
    obtain ⟨st₁, hgoto, hst⟩ := hst
    have hone := run_one_of_receives (State.Receives.left (bs := [b]) h) (RxOut.goto?_eq_some.1 hgoto)
    have hmore := ih (State.Receives.right (bs := [b]) h st₁) hst
    rw [State.received_setRx_received] at hmore
    rw [List.length_cons, Nat.add_comm]
    exact (run_add hone _).trans hmore

/-- R200 to R205: while the bytes of a message are not all there, the active bank is as it was. -/
theorem exists_run_of_rxCollect {k : Nat} (h : s.Receives (bs ++ cs) rest es)
    (hst : rxCollect s.par s.devRx bs = some st) (hk : k ≤ bs.length) :
    ∃ t, core.run k s = .next t ∧ t.devActive = s.devActive := by
  obtain ⟨st₁, htake⟩ := exists_rxCollect_take hst k
  rw [← List.take_append_drop k bs, List.append_assoc] at h
  have hrun := run_of_rxCollect h.left htake
  rw [List.length_take_of_le hk] at hrun
  exact ⟨_, hrun, rfl⟩

end

/-! ### A frame -/

section
variable {s : State} {si term : Byte} {data : List Word} {i : Instr} {rest : List Byte} {es : List Event}

/-- A legal frame's meaning does not read the parse state: it puts the receiver in `IDLE` (R208, R209). -/
theorem exec_frame_setRx (hlegal : frameLegal s.par si data = true) (hi : frameOf s.par si (bytesOf data) term = some i)
    (st : RxState) : exec i (s.setRx st) = exec i s := by
  rw [frameOf, wordsOf_bytesOf] at hi
  split at hi
  · cases hi
    rw [exec_fragMore_of_legal hlegal, exec_fragMore_of_legal (s := s.setRx st) hlegal]
    rfl
  · split at hi
    · cases hi
      rw [exec_fragFinal_of_legal hlegal, exec_fragFinal_of_legal (s := s.setRx st) hlegal]
      rfl
    · cases hi

/-- R201 to R206: from `IDLE`, the receiver run over a legal frame carries it out. -/
theorem run_frameBytes (hlegal : frameLegal s.par si data = true) (hi : frameOf s.par si (bytesOf data) term = some i)
    (hidle : s.devRx = .idle) (h : s.Receives (frameBytes si data term) rest es) :
    core.run (frameBytes si data term).length s = exec i (s.received (frameBytes si data term) rest es) := by
  have hrun := run_of_rxCollect h.left (hidle.symm ▸ rxCollect_frame hlegal)
  have hlen : (frameBytes si data term).length = ([BitVec.ofNat 8 data.length, si] ++ bytesOf data).length + 1 :=
    List.length_append
  have hterm := run_one_of_receives (h.right (.awaitTerm data.length si (bytesOf data)))
    (rxAccept_awaitTerm_of_frameOf hi)
  rw [hlen]
  refine (run_add hrun 1).trans (hterm.trans ((congrArg (exec i) State.received_setRx_received).trans ?_))
  exact exec_frame_setRx (s := s.received (frameBytes si data term) rest es) hlegal hi _

end

/-! ### A whole transfer -/

/-- R207, R208: the first `m` fragments of a transfer of `ws` are in `DEV_SHADOW`, their `DEV_WMASK` bits set. -/
structure State.Buffered (s : State) (ws : List Word) (m : Nat) : Prop where
  shadowLength : s.devShadow.length = s.par.NF
  wmaskLength : s.devWmask.length = s.par.NF
  words : ∀ j, j < s.par.NF → j < fragmentStart s.par m → s.devShadow[j]? = ws[j]? ∧ s.devWmask[j]? = some true

/-- The bytes of a transfer from fragment `m` on. -/
def transferFrom (p : Params) (ws : List Word) (m : Nat) : List Byte := ((transferFrames p ws).drop m).flatten

/-- The operation that fragment `m` of a transfer is at the device (R180). -/
def fragmentInstr (p : Params) (ws : List Word) (m : Nat) : Instr :=
  if m + 1 = fragmentCount p then .fragFinal (BitVec.ofNat 8 (fragmentStart p m)) (fragmentData p ws m)
  else .fragMore (BitVec.ofNat 8 (fragmentStart p m)) (fragmentData p ws m)

theorem transferFrom_of_lt {p : Params} {m : Nat} (hm : m < fragmentCount p) (ws : List Word) :
    transferFrom p ws m = fragmentBytes p ws m ++ transferFrom p ws (m + 1) := by
  have hlen : m < (transferFrames p ws).length := by rwa [transferFrames, List.length_map, List.length_range]
  rw [transferFrom, List.drop_eq_getElem_cons hlen, List.flatten_cons, transferFrom]
  simp [transferFrames]

theorem transferFrom_fragmentCount (p : Params) (ws : List Word) : transferFrom p ws (fragmentCount p) = [] := by
  rw [transferFrom, List.drop_of_length_le (by simp [transferFrames]), List.flatten_nil]

section
variable {s : State} {ws : List Word} {m : Nat}

/-- R207: fragment `m` buffered over the ones before it. -/
theorem State.Buffered.bufferFrame (hb : s.Buffered ws m) (hp : s.par.Valid) (hws : ws.length = s.par.NF)
    (hm : m < fragmentCount s.par) :
    (s.bufferFrame (BitVec.ofNat 8 (fragmentStart s.par m)) (fragmentData s.par ws m)).Buffered ws (m + 1) := by
  obtain ⟨hshadow, hwmask, hwords⟩ := hb
  have hlegal := frameLegal_fragmentData hp hws hm
  refine ⟨by simpa using hshadow, by simpa using hwmask, fun j hj hjm => ?_⟩
  rw [State.bufferFrame_devShadow_getElem? hlegal hshadow, State.bufferFrame_devWmask_getElem? hlegal hwmask,
    fragmentStart_toNat hp hm, fragmentData_length hp hws hm]
  split
  next hin =>
    refine ⟨?_, rfl⟩
    rw [fragmentData, List.getElem?_take_of_lt (by omega), List.getElem?_drop, Nat.add_sub_cancel' hin.1]
  next hout =>
    refine hwords j hj ?_
    rw [State.bufferFrame_par] at hj hjm
    rw [fragmentStart_succ] at hjm
    rw [fragmentLength] at hout
    omega

/-- R209: with every fragment buffered, a commit makes the words sent active. -/
theorem State.Buffered.commit_devActive (hb : s.Buffered ws (fragmentCount s.par)) (hp : s.par.Valid)
    (hws : ws.length = s.par.NF) : s.commit.devActive = ws := by
  have ⟨_, _, hc, _⟩ := hp
  have hend : s.par.NF ≤ fragmentStart s.par (fragmentCount s.par) :=
    not_lt.1 fun h => lt_irrefl _ ((lt_fragmentCount_iff hc).2 h)
  refine List.ext_getElem? fun j => ?_
  obtain hj | hj := lt_or_ge j s.par.NF
  · obtain ⟨hword, hmask⟩ := hb.words j hj (hj.trans_le hend)
    rw [State.commit_devActive_getElem? hb.shadowLength hj hmask, hword]
  · rw [List.getElem?_eq_none (by simpa using hj), List.getElem?_eq_none (by omega)]

/-- The receiver about to take fragment `m` of a transfer of `ws`, the last thing in flight. -/
structure State.AtFragment (s : State) (ws : List Word) (m : Nat) : Prop where
  parValid : s.par.Valid
  wordsLength : ws.length = s.par.NF
  unfinished : m < fragmentCount s.par
  idle : s.devRx = .idle
  buffered : s.Buffered ws m
  receives : s.Receives (transferFrom s.par ws m) [] []

theorem State.AtFragment.legal (h : s.AtFragment ws m) :
    frameLegal s.par (BitVec.ofNat 8 (fragmentStart s.par m)) (fragmentData s.par ws m) = true :=
  frameLegal_fragmentData h.parValid h.wordsLength h.unfinished

theorem State.AtFragment.receivesFragment (h : s.AtFragment ws m) :
    s.Receives (fragmentBytes s.par ws m) (transferFrom s.par ws (m + 1))
      (List.replicate (transferFrom s.par ws (m + 1)).length .devRx) := by
  have hrec := (transferFrom_of_lt h.unfinished ws ▸ h.receives).left
  rwa [List.append_nil, List.append_nil] at hrec

/-- R208: inside a fragment's bytes the active bank is as it was. -/
theorem State.AtFragment.exists_run_lt (h : s.AtFragment ws m) {k : Nat} (hk : k < (fragmentBytes s.par ws m).length) :
    ∃ t, core.run k s = .next t ∧ t.devActive = s.devActive := by
  have hrec := h.receivesFragment
  rw [fragmentBytes_eq_frameBytes h.parValid h.wordsLength h.unfinished] at hrec hk
  refine exists_run_of_rxCollect hrec (h.idle.symm ▸ rxCollect_frame h.legal) ?_
  rw [frameBytes, List.length_append] at hk
  exact Nat.le_of_lt_succ hk

/-- R180: the receiver run over fragment `m` carries it out. -/
theorem State.AtFragment.run_fragment (h : s.AtFragment ws m) :
    core.run (fragmentBytes s.par ws m).length s =
      exec (fragmentInstr s.par ws m) (s.received (fragmentBytes s.par ws m) (transferFrom s.par ws (m + 1))
        (List.replicate (transferFrom s.par ws (m + 1)).length .devRx)) := by
  have ⟨_, _, _, _, hterm, _⟩ := h.parValid
  have hrec := h.receivesFragment
  rw [fragmentBytes_eq_frameBytes h.parValid h.wordsLength h.unfinished] at hrec ⊢
  refine run_frameBytes h.legal ?_ h.idle hrec
  rw [frameOf_fragmentTerm hterm, wordsOf_bytesOf, fragmentInstr]

/-- R208: a fragment that is not the last is buffered, and the next one's turn comes. -/
theorem State.AtFragment.run_more (h : s.AtFragment ws m) (hm : m + 1 < fragmentCount s.par) :
    ∃ t, core.run (fragmentBytes s.par ws m).length s = .next t ∧ t.AtFragment ws (m + 1) ∧ t.par = s.par ∧
      t.devActive = s.devActive ∧ t.bank = s.bank ∧ t.respPub = s.respPub := by
  have hrun := h.run_fragment
  rw [fragmentInstr, if_neg hm.ne] at hrun
  obtain ⟨hshadow, hwmask, hwords⟩ := h.buffered.bufferFrame h.parValid h.wordsLength h.unfinished
  refine ⟨_, hrun.trans (exec_fragMore_of_legal h.legal), ?_, rfl, rfl, rfl, rfl⟩
  exact ⟨h.parValid, h.wordsLength, hm, rfl, ⟨hshadow, hwmask, hwords⟩, h.receives.noFault, (List.append_nil _).symm,
    (List.append_nil _).symm⟩

/-- R209, R212: what a complete transfer of `ws` has made of the device, and of the block, which it leaves alone. -/
structure State.Committed (s t : State) (ws : List Word) : Prop where
  active : t.devActive = ws
  wmaskClear : t.devWmask = List.replicate s.par.NF false
  idle : t.devRx = .idle
  noFault : t.devFault = []
  drained : t.h2d = []
  bank : t.bank = s.bank
  respPub : t.respPub = s.respPub

/-- R209: the last fragment is buffered and the whole transfer committed. -/
theorem State.AtFragment.run_last (h : s.AtFragment ws m) (hm : m + 1 = fragmentCount s.par) :
    ∃ t, core.run (fragmentBytes s.par ws m).length s = .next t ∧ s.Committed t ws := by
  have hrun := h.run_fragment
  rw [fragmentInstr, if_pos hm, hm, transferFrom_fragmentCount] at hrun
  obtain ⟨hshadow, hwmask, hwords⟩ := h.buffered.bufferFrame h.parValid h.wordsLength h.unfinished
  rw [hm] at hwords
  refine ⟨_, hrun.trans (exec_fragFinal_of_legal h.legal), ⟨?_, rfl, rfl, h.receives.noFault, rfl, rfl, rfl⟩⟩
  exact State.Buffered.commit_devActive ⟨hshadow, hwmask, hwords⟩ h.parValid h.wordsLength

/-- R212: the receiver run over what is left of a transfer commits all of it, by induction on the fragments left. -/
theorem State.AtFragment.run_transferFrom (h : s.AtFragment ws m) :
    ∃ t, core.run (transferFrom s.par ws m).length s = .next t ∧ s.Committed t ws := by
  obtain ⟨n, hn⟩ := Nat.exists_eq_add_of_lt h.unfinished
  induction n generalizing s m with
  | zero =>
    obtain ⟨t, hrun, ht⟩ := h.run_last hn.symm
    refine ⟨t, ?_, ht⟩
    rwa [transferFrom_of_lt h.unfinished, ← hn, transferFrom_fragmentCount, List.append_nil]
  | succ n ih =>
    obtain ⟨t, hrun, hat, hpar, -, hbank, hresp⟩ := h.run_more (by omega)
    obtain ⟨u, hrest, hu⟩ := ih hat (by rw [hpar]; omega)
    rw [hpar] at hrest
    refine ⟨u, ?_, ⟨hu.active, hpar ▸ hu.wmaskClear, hu.idle, hu.noFault, hu.drained, hu.bank.trans hbank,
      hu.respPub.trans hresp⟩⟩
    rw [transferFrom_of_lt h.unfinished, List.length_append]
    exact (run_add hrun _).trans hrest

/-- R208, R212: before the last of a transfer's bytes the active bank is as it was. -/
theorem State.AtFragment.exists_run_lt_transferFrom (h : s.AtFragment ws m) {k : Nat}
    (hk : k < (transferFrom s.par ws m).length) : ∃ t, core.run k s = .next t ∧ t.devActive = s.devActive := by
  obtain ⟨n, hn⟩ := Nat.exists_eq_add_of_lt h.unfinished
  induction n generalizing s m k with
  | zero =>
    rw [transferFrom_of_lt h.unfinished, ← hn, transferFrom_fragmentCount, List.append_nil] at hk
    exact h.exists_run_lt hk
  | succ n ih =>
    obtain hlt | hge := lt_or_ge k (fragmentBytes s.par ws m).length
    · exact h.exists_run_lt hlt
    obtain ⟨t, hrun, hat, hpar, hactive, -⟩ := h.run_more (by omega)
    obtain ⟨k, rfl⟩ := Nat.exists_eq_add_of_le hge
    rw [transferFrom_of_lt h.unfinished, List.length_append] at hk
    obtain ⟨u, hrest, hu⟩ := ih hat (k := k) (by rw [hpar]; omega) (by rw [hpar]; omega)
    exact ⟨u, (run_add hrun k).trans hrest, hu.trans hactive⟩

end

end Machine

open Machine

/-- Settles O44: the receiver stands before the first of the transfer's fragments. -/
theorem completeTransferCommitsTheBank : Obligations.CompleteTransferCommitsTheBank := by
  rintro s bank _ hinv hbank rfl hfault hidle hq hin
  have hws : (devWords bank).length = s.par.NF := by rw [devWords_length, hbank, Params.NF]
  have ⟨hN, _, hc, _⟩ := hinv.parValid
  have hfirst : 0 < fragmentCount s.par := by
    rw [lt_fragmentCount_iff hc, fragmentStart, Params.NF]
    omega
  have hat : s.AtFragment (devWords bank) 0 := by
    refine ⟨hinv.parValid, hws, hfirst, hidle, ⟨hinv.shadowLength, hinv.wmaskLength, fun j _ hj => ?_⟩, hfault, ?_, ?_⟩
    · rw [fragmentStart, Nat.zero_mul] at hj
      exact absurd hj j.not_lt_zero
    · rw [hq, List.append_nil, transferFrom, List.drop_zero]
    · rw [hin, List.append_nil, transferFrom, List.drop_zero]
  refine ⟨?_, fun k hk => hat.exists_run_lt_transferFrom hk⟩
  obtain ⟨t, hrun, ht⟩ := hat.run_transferFrom
  exact ⟨t, hrun, ht.active, ht.wmaskClear, ht.idle, ht.noFault, ht.drained, ht.bank, ht.respPub⟩

/-- Settles O32: the entries of a buffered frame. -/
theorem fragMoreBuffersItsWords : Obligations.FragMoreBuffersItsWords := by
  intro s si data hlegal hshadow hwmask
  refine ⟨_, exec_fragMore_of_legal hlegal, rfl, fun j _ => ⟨?_, ?_⟩⟩
  · exact State.bufferFrame_devShadow_getElem? hlegal hshadow j
  · exact State.bufferFrame_devWmask_getElem? hlegal hwmask j

/-- Settles O33: the frame's words are written, those of earlier frames stay so, and a commit makes both active. -/
theorem fragFinalCommitsTheBuffer : Obligations.FragFinalCommitsTheBuffer := by
  intro s si data hlegal hshadow hwmask
  have hentry := State.bufferFrame_devShadow_getElem? hlegal hshadow
  have hbit := State.bufferFrame_devWmask_getElem? hlegal hwmask
  have hactive {j : Nat} (hj : j < s.par.NF) (hmask : (s.bufferFrame si data).devWmask[j]? = some true) :
      (s.bufferFrame si data).commit.devActive[j]? = (s.bufferFrame si data).devShadow[j]? :=
    State.commit_devActive_getElem? ((putFrom_length _ _ _).trans hshadow) hj hmask
  refine ⟨_, exec_fragFinal_of_legal hlegal, rfl, by simp, fun j hj => ⟨hentry j, fun hlo hhi => ?_, fun hmask => ?_⟩⟩
  · refine (hactive hj ((hbit j).trans (if_pos ⟨hlo, hhi⟩))).trans ((hentry j).trans (if_pos ⟨hlo, hhi⟩))
  · refine hactive hj ((hbit j).trans ?_)
    rw [hmask, ite_self]

/-- Settles O40: what the parse makes of a byte in `IDLE`, at each of the rules' cases. -/
theorem receiverIdleByte : Obligations.ReceiverIdleByte := by
  rintro s _ es b rest hin hfault hq hidle rfl
  rw [← startsFrame_iff]
  refine ⟨fun hb => ?_, fun hb => ⟨fun hseq => ?_, fun c cs hseq => ?_, fun hseq => ?_⟩⟩
  · exact step_devRx hin hfault hq (hidle ▸ rxAccept_idle_of_startsFrame hb)
  · exact step_devRx hin hfault hq (hidle ▸ rxAccept_idle_of_autoeq hb hseq)
  · exact step_devRx hin hfault hq (hidle ▸ rxAccept_idle_of_autoeq hb hseq)
  · exact step_devRx_desync hin hfault hq (hidle ▸ rxAccept_idle_of_other hb hseq)

/-- Settles O41: what the parse makes of a start index and of a data byte. -/
theorem receiverStartIndexAndData : Obligations.ReceiverStartIndexAndData := by
  rintro s _ es b rest hin hfault hq rfl
  refine ⟨fun pc hpc => ⟨fun hle => ?_, fun hlt => ?_⟩, fun pc si d hdata => ?_⟩
  · exact step_devRx hin hfault hq (hpc ▸ rxAccept_gotPc_of_le hle)
  · exact step_devRx_desync hin hfault hq (hpc ▸ rxAccept_gotPc_of_lt hlt)
  · exact step_devRx hin hfault hq (hdata ▸ rxAccept_data _ pc si d b)

/-- Settles O42: what the parse makes of a terminator, by the frame's kind, and of a byte inside the auto-EQ command. -/
theorem receiverTerminatorAndSequence : Obligations.ReceiverTerminatorAndSequence := by
  rintro s _ es b rest hin hfault hq rfl
  refine ⟨fun pc si d hterm => ⟨?_, fun hmore => ?_, fun hmore hfinal => ?_⟩,
    fun m q hm hseq => ⟨fun hb hlt => ?_, fun hb hlast => ?_, fun hb => ?_⟩⟩
  · rintro rfl
    exact step_devRx hin hfault hq (hterm ▸ rxAccept_awaitTerm_of_frameOf (frameOf_termMore s.par si d))
  · rintro rfl
    exact step_devRx hin hfault hq (hterm ▸ rxAccept_awaitTerm_of_frameOf (frameOf_termFinal hmore si d))
  · exact step_devRx_desync hin hfault hq (hterm ▸ rxAccept_awaitTerm_of_other hmore hfinal)
  · exact step_devRx hin hfault hq (hm ▸ (rxAccept_seq_of_match hseq hb).trans (if_neg hlt.ne))
  · exact step_devRx hin hfault hq (hm ▸ (rxAccept_seq_of_match hseq hb).trans (if_pos hlast))
  · exact step_devRx_desync hin hfault hq (hm ▸ rxAccept_seq_of_break hseq hb)

end Sys2Proof
end

/-! # Proofs of the family 45_link: the link port's operations on an open and on a closed link, and a telemetry byte -/
section

namespace Sys2Proof
namespace Machine

section
variable {s : State} {port : Port} {b : Byte} {es : List Event}

/-- R230: after the release the link is closed, and the telemetry unread on an open link is gone. -/
theorem State.releaseLink_eq (s : State) : s.releaseLink =
    { s with link := .closed, d2h := if s.link = .closed then s.d2h else [] } := by
  unfold State.releaseLink
  split
  next hopen => rw [hopen]; rfl
  next hclosed => rw [if_pos hclosed, ← hclosed]

theorem exec_linkOpen_of_valid (h : s.par.portValid port = true) :
    exec (.linkOpen port) s = .next ((s.releaseLink.openLink port).answer .none) :=
  congrArg _ (if_pos h)

theorem exec_linkOpen_of_invalid (h : s.par.portValid port = false) :
    exec (.linkOpen port) s = .next (s.releaseLink.raise 0x20 .linkUnavailableError (.port port)) :=
  congrArg _ (if_neg (ne_true_of_eq_false h))

theorem exec_linkClose (s : State) : exec .linkClose s = .next (s.closeLink.answer .none) := rfl

theorem exec_readAvailable_of_opened (h : s.link = .opened port) :
    exec .readAvailable s = .next (s.drainD2h.answer (.bytes s.d2h)) := by
  simp only [exec, execReadAvailable, h]

theorem exec_readAvailable_of_closed (h : s.link = .closed) :
    exec .readAvailable s = .next (s.raise 0x22 .linkUnavailableError .none) := by
  simp only [exec, execReadAvailable, h]

theorem exec_tickPoll_of_opened (h : s.link = .opened port) :
    exec .tickPoll s = .next ((State.reschedulePoll { s.drainD2h with telem := s.telem ++ s.d2h }).answer .none) := by
  simp only [exec, execTickPoll, h]

theorem exec_tickPoll_of_closed (h : s.link = .closed) :
    exec .tickPoll s = .next (s.reschedulePoll.answer .none) := by
  simp only [exec, execTickPoll, h]

theorem State.telemetryByte_of_opened (h : s.link = .opened port) :
    s.telemetryByte b = { s with d2h := s.d2h ++ [b] } := by
  simp only [State.telemetryByte, h]

theorem State.telemetryByte_of_closed (h : s.link = .closed) : s.telemetryByte b = s := by
  simp only [State.telemetryByte, h]

/-- R235: DEV_TX puts one byte on the link. -/
theorem step_devTx (hin : s.inbox = .devTx b :: es) :
    step s = .next (State.telemetryByte { s with inbox := es, pos := s.pos + 1 } b) := by
  simp only [step, State.nextEvent, State.popEvent, hin, List.headD_cons, List.tail_cons, deliver]

end
end Machine

open Machine

/-- Settles O27: the release closes the link whatever the port, and the port's validity decides the rest. -/
theorem linkOpenReleasesThenOpens : Obligations.LinkOpenReleasesThenOpens := by
  rintro s port _ rfl
  refine ⟨fun hvalid => ?_, fun hinvalid => ?_⟩
  · rw [exec_linkOpen_of_valid hvalid, State.releaseLink_eq]
    rfl
  · rw [exec_linkOpen_of_invalid hinvalid, State.releaseLink_eq]
    rfl

/-- Settles O28: LINK_CLOSE is one case, whatever the link. -/
theorem linkCloseDiscardsTelemetry : Obligations.LinkCloseDiscardsTelemetry := exec_linkClose

/-- Settles O29, one state of the link a clause. -/
theorem readAvailableDrainsTheQueue : Obligations.ReadAvailableDrainsTheQueue := fun _ =>
  ⟨fun _ hopen => exec_readAvailable_of_opened hopen, exec_readAvailable_of_closed⟩

/-- Settles O30, one state of the link a clause. -/
theorem tickPollFillsTheSink : Obligations.TickPollFillsTheSink := fun _ =>
  ⟨fun _ hopen => ⟨_, exec_tickPoll_of_opened hopen, rfl⟩, fun hclosed => ⟨_, exec_tickPoll_of_closed hclosed, rfl⟩⟩

/-- Settles O31: taking the event leaves the link as it was, and the link decides what becomes of the byte. -/
theorem telemetryByteIsQueuedOrLost : Obligations.TelemetryByteIsQueuedOrLost := by
  intro s b es hin
  rw [step_devTx hin]
  refine ⟨fun port hopen => ?_, fun hclosed => ?_⟩
  · exact congrArg _ (State.telemetryByte_of_opened hopen)
  · exact congrArg _ (State.telemetryByte_of_closed hclosed)

end Sys2Proof
end

/-! # Proofs of the family 70_reset_and_hazards: the table of a block reset -/
section

namespace Sys2Proof
namespace Machine

/-- R24: every section of the bank is the identity. -/
theorem bankAtReset_getElem? {p : Params} {i : Nat} (hi : i < p.N) : (bankAtReset p)[i]? = some Biquad.identity :=
  List.getElem?_replicate_of_lt hi

end Machine

open Machine

/-- Settles O1: R280's first row is the bank's length and its sections; every other row is a field `resetOf` writes. -/
theorem blockResetTable : Obligations.BlockResetTable := by
  refine ⟨rfl, fun p => ⟨rfl, ?length, ?sections, ?otherRows⟩⟩
  case length => exact bankAtReset_length p
  case sections => exact fun _ hi => bankAtReset_getElem? hi
  case otherRows => exact ⟨rfl, rfl, rfl, rfl, rfl, rfl, rfl, rfl, rfl, rfl⟩

end Sys2Proof
end

/-! # Proofs of the family other, part 1: how a command ends, and what it leaves of the host -/
section

namespace Sys2Proof
namespace Machine

/-! ### How a command ends -/

/-- How the command `i` of opcode `op` ends (R250 to R259): with an answer, the sinks only longer; refused; or with one
of the block's error kinds. -/
inductive CommandEnds (i : Instr) (op : Byte) (s t : State) : Prop where
  | answered (u : State) (r : Results) (hdiag : u.diag = s.diag) (htelem : s.telem <+: u.telem)
      (hrefused : u.refused = s.refused) (ht : t = u.answer r)
  | refused (hi : i = .sendAutoeq) (hseq : s.par.autoeqSeq = none) (ht : t = s.refuse .autoeqUnspecified)
  | outOfRange (idx : Byte) (hop : op ∈ [0x02#8, 0x03#8]) (ht : t = s.raise op .indexRangeError (.idx idx))
  | invalid (d : Detail) (hop : op = 0x03) (hd : (∃ n, d = .count n) ∨ ∃ c, d = .word c)
      (ht : t = s.raise op .validationError d)
  | linkClosed (hop : op ∈ [0x10#8, 0x11#8, 0x22#8]) (ht : t = s.raise op .linkUnavailableError .none)
  | portInvalid (port : Port) (hi : i = .linkOpen port) (hop : op = 0x20)
      (ht : t = s.releaseLink.raise op .linkUnavailableError (.port port))
  | writeCut (ms : List (List Byte)) (n : Nat) (hop : op ∈ [0x10#8, 0x11#8]) (hn : n < ms.flatten.length)
      (ht : t = (State.cutAt { s with h2d := s.h2d ++ ms.flatten.take n } ms n).raise op .transmissionError
        (.delivered n))

/-- R233: a write fails inside the bytes to be written. -/
theorem lt_of_writeFailure_eq_some {draw : Option Nat} {n len : Nat} (h : writeFailure draw len = some n) :
    n < len := by
  unfold writeFailure at h
  split at h
  · split at h
    next hlt => cases h; exact hlt
    next => cases h
  · cases h

section
variable {i : Instr} {op : Byte} {s t : State}

/-- A command that answers and does nothing else has left every sink. -/
theorem CommandEnds.of_answer (s : State) (r : Results) : CommandEnds i op s (s.answer r) :=
  .answered s r rfl (List.prefix_refl _) rfl rfl

theorem CommandEnds.of_transmit (s : State) (ms : List (List Byte)) (hop : op ∈ [0x10#8, 0x11#8]) :
    CommandEnds i op s (s.transmit op ms) := by
  cases hw : writeFailure s.writeDraw ms.flatten.length with
  | none =>
    rw [s.transmit_ok op ms hw]
    exact .answered { s with h2d := s.h2d ++ ms.flatten } .none rfl (List.prefix_refl _) rfl rfl
  | some n => exact .writeCut ms n hop (lt_of_writeFailure_eq_some hw) (s.transmit_fail op ms n hw)

theorem CommandEnds.of_setSection {idx : Byte} {ws : List Word} (h : exec (.setSection idx ws) s = .next t) :
    CommandEnds (.setSection idx ws) 0x03 s t := by
  cases h; split
  · exact .outOfRange idx (by decide) rfl
  · split
    · split
      next c _ => exact .invalid (.word c) rfl (.inr ⟨c, rfl⟩) rfl
      next => exact .answered (s.setSectionAt idx.toNat _) .none rfl (List.prefix_refl _) rfl rfl
    · exact .invalid (.count ws.length) rfl (.inl ⟨_, rfl⟩) rfl

theorem CommandEnds.of_linkOpen {port : Port} (h : exec (.linkOpen port) s = .next t) :
    CommandEnds (.linkOpen port) 0x20 s t := by
  cases h; split
  · exact .answered (s.releaseLink.openLink port) .none (by simp) (by simp) (by simp) rfl
  · exact .portInvalid port rfl rfl rfl

/-- R250, R251: every command ends in one of these ways. -/
theorem command_ends (hop : i.opcode = some op) (h : exec i s = .next t) : CommandEnds i op s t := by
  cases i
  case fragMore | fragFinal | autoeqCmd | sample => cases hop
  all_goals cases hop
  case sectionCount | toDevice | toPreview => cases h; exact .of_answer s _
  case getSection idx =>
    cases h; split
    · exact .outOfRange idx (by decide) rfl
    · exact .of_answer s _
  case setSection => exact .of_setSection h
  case upload =>
    cases h; split
    · exact .linkClosed (by decide) rfl
    · exact .of_transmit s _ (by decide)
  case sendAutoeq =>
    cases h; split
    next hseq => exact .refused rfl hseq rfl
    next =>
      split
      · exact .linkClosed (by decide) rfl
      · exact .of_transmit s _ (by decide)
  case linkOpen => exact .of_linkOpen h
  case linkClose => cases h; exact .answered s.closeLink .none rfl (List.prefix_refl _) rfl rfl
  case readAvailable =>
    cases h; split
    · exact .linkClosed (by decide) rfl
    · exact .answered s.drainD2h _ rfl (List.prefix_refl _) rfl rfl
  case tickResponse =>
    cases h; split
    · exact .answered s.rescheduleResp .none rfl (List.prefix_refl _) rfl rfl
    · exact .answered s.publish.rescheduleResp .none rfl (List.prefix_refl _) rfl rfl
  case tickPoll =>
    cases h; split
    · exact .answered s.reschedulePoll .none rfl (List.prefix_refl _) rfl rfl
    · exact .answered (State.reschedulePoll { s.drainD2h with telem := s.telem ++ s.d2h }) .none rfl
        (List.prefix_append _ _) rfl rfl

/-- R82: what has an opcode is what the command port carries. -/
theorem exists_opcode_of_command (hi : i.channel = .command) : ∃ op, i.opcode = some op := by
  cases i
  case fragMore | fragFinal | autoeqCmd | sample => cases hi
  all_goals exact ⟨_, rfl⟩

/-- R31, R33, R41: the three sinks of `s` are kept, or grow, in `t`. -/
structure SinksKept (s t : State) : Prop where
  diag : s.diag <+: t.diag
  telem : s.telem <+: t.telem
  refused : ∀ n ∈ s.refused, n ∈ t.refused

theorem SinksKept.refuse (s : State) (n : RefusalName) : SinksKept s (s.refuse n) :=
  ⟨List.prefix_refl _, List.prefix_refl _, fun _ hn => List.mem_insert_of_mem hn⟩

theorem CommandEnds.sinksKept (h : CommandEnds i op s t) : SinksKept s t := by
  cases h with
  | answered u r hdiag htelem hrefused ht =>
    subst ht
    exact ⟨by simp [hdiag], htelem, fun n hn => by simpa [hrefused] using hn⟩
  | refused _ _ ht => exact ht ▸ .refuse s _
  | outOfRange _ _ ht | invalid _ _ _ ht | linkClosed _ ht | portInvalid _ _ _ ht | writeCut _ _ _ _ ht =>
    subst ht
    constructor <;> simp

/-! ### The status and the record of an error (R250 to R255) -/

/-- R253 to R255: what a command of opcode `op` that ends with the error `k` has done. -/
structure ErrorEffects (op : Byte) (k : Status) (s t : State) : Prop where
  record : ∃ d, t.diag = s.diag ++ [⟨op, k, d⟩]
  notImporters : k ≠ .sourceUnreadableError ∧ k ≠ .rowMismatchError
  opcodes : op ∈ [0x02#8, 0x03#8, 0x10#8, 0x11#8, 0x20#8, 0x22#8]
  frame : t = { s with
    resp := t.resp, diag := t.diag, h2d := t.h2d, devFault := t.devFault, link := t.link, d2h := t.d2h }
  delivered : ∃ out, t.h2d = s.h2d ++ out ∧
    (k = .transmissionError → t.diag = s.diag ++ [⟨op, k, .delivered out.length⟩])
  nothingWritten : k ≠ .transmissionError → t.h2d = s.h2d ∧ t.devFault = s.devFault
  linkLeft : op ≠ 0x20 → t.link = s.link ∧ t.d2h = s.d2h
  linkReleased : op = 0x20 → t.link = .closed ∧ t.d2h = if s.link = .closed then s.d2h else []

/-- R253: an error raised on the state as it was changes nothing but the answer and `DIAG`. -/
theorem ErrorEffects.of_raise {k : Status} (s : State) (d : Detail)
    (hop : op ∈ [0x02#8, 0x03#8, 0x10#8, 0x11#8, 0x22#8])
    (hk : k ∈ [Status.validationError, .linkUnavailableError, .indexRangeError]) :
    ErrorEffects op k s (s.raise op k d) := by
  have hne : op ≠ 0x20 := fun e => absurd (e ▸ hop) (by decide)
  have hkinds : k ≠ .sourceUnreadableError ∧ k ≠ .rowMismatchError ∧ k ≠ .transmissionError := by
    refine ⟨?_, ?_, ?_⟩ <;> rintro rfl <;> exact absurd hk (by decide)
  obtain ⟨hsource, hrow, htransmission⟩ := hkinds
  exact {
    record := ⟨d, rfl⟩
    notImporters := ⟨hsource, hrow⟩
    opcodes :=
      (by decide : [0x02#8, 0x03#8, 0x10#8, 0x11#8, 0x22#8] ⊆ [0x02#8, 0x03#8, 0x10#8, 0x11#8, 0x20#8, 0x22#8]) hop
    frame := rfl
    delivered := ⟨[], (List.append_nil _).symm, fun e => absurd e htransmission⟩
    nothingWritten := fun _ => ⟨rfl, rfl⟩
    linkLeft := fun _ => ⟨rfl, rfl⟩
    linkReleased := fun e => absurd e hne }

/-- R230: a LINK_OPEN that fails has released the link. -/
theorem ErrorEffects.of_releaseLink (s : State) (d : Detail) :
    ErrorEffects 0x20 .linkUnavailableError s (s.releaseLink.raise 0x20 .linkUnavailableError d) := by
  rw [State.releaseLink_eq]
  exact {
    record := ⟨d, rfl⟩
    notImporters := by decide
    opcodes := by decide
    frame := rfl
    delivered := ⟨[], (List.append_nil _).symm, fun e => nomatch e⟩
    nothingWritten := fun _ => ⟨rfl, rfl⟩
    linkLeft := fun hne => absurd rfl hne
    linkReleased := fun _ => ⟨rfl, rfl⟩ }

/-- R184, R213, R233: a failed write leaves its first bytes, and the fault of a cut inside a message. -/
theorem ErrorEffects.of_cutAt (s : State) {ms : List (List Byte)} {n : Nat} (hop : op ∈ [0x10#8, 0x11#8])
    (hn : n < ms.flatten.length) :
    ErrorEffects op .transmissionError s
      ((State.cutAt { s with h2d := s.h2d ++ ms.flatten.take n } ms n).raise op .transmissionError (.delivered n)) := by
  have hne : op ≠ 0x20 := fun e => absurd (e ▸ hop) (by decide)
  have hlen : (ms.flatten.take n).length = n := List.length_take_of_le hn.le
  rw [State.cutAt_eq]
  exact {
    record := ⟨.delivered n, rfl⟩
    notImporters := by decide
    opcodes := (by decide : [0x10#8, 0x11#8] ⊆ [0x02#8, 0x03#8, 0x10#8, 0x11#8, 0x20#8, 0x22#8]) hop
    frame := rfl
    delivered := ⟨ms.flatten.take n, rfl, fun _ => by rw [hlen]; rfl⟩
    nothingWritten := fun h => absurd rfl h
    linkLeft := fun _ => ⟨rfl, rfl⟩
    linkReleased := fun e => absurd e hne }

/-- R253: whatever ends with an error answers no results. -/
theorem CommandEnds.errorEffects {k : Status} {r : Results} (h : CommandEnds i op s t) (hresp : t.resp = some ⟨k, r⟩)
    (hk : k ≠ .ok) : r = .none ∧ ErrorEffects op k s t := by
  cases h with
  | answered u _ _ _ _ ht => subst ht; cases hresp; exact absurd rfl hk
  | refused _ _ ht => subst ht; cases hresp
  | outOfRange idx hop ht =>
    subst ht; cases hresp
    exact ⟨rfl, .of_raise s _ (List.mem_append_left [0x10#8, 0x11#8, 0x22#8] hop) (by decide)⟩
  | invalid d hop _ ht => subst ht hop; cases hresp; exact ⟨rfl, .of_raise s d (by decide) (by decide)⟩
  | linkClosed hop ht =>
    subst ht; cases hresp
    exact ⟨rfl, .of_raise s _ (List.mem_cons_of_mem _ (List.mem_cons_of_mem _ hop)) (by decide)⟩
  | portInvalid port _ hop ht => subst ht hop; cases hresp; exact ⟨rfl, .of_releaseLink s _⟩
  | writeCut ms n hop hn ht => subst ht; cases hresp; exact ⟨rfl, .of_cutAt s hop hn⟩

/-- R253: a command that answers OK, or is refused, appends no record. -/
theorem CommandEnds.diag_of_no_error (h : CommandEnds i op s t) (hresp : ∀ k r, t.resp = some ⟨k, r⟩ → k = .ok) :
    t.diag = s.diag := by
  cases h with
  | answered u _ hdiag _ _ ht => subst ht; exact hdiag
  | refused _ _ ht => subst ht; rfl
  | outOfRange _ _ ht | invalid _ _ _ ht | linkClosed _ ht | portInvalid _ _ _ ht | writeCut _ _ _ _ ht =>
    subst ht; exact nomatch hresp _ _ rfl

end
end Machine

open Machine

/-- Settles O51: each way in which a command ends has its effects. -/
theorem errorsAppendOneDiagnostic : Obligations.ErrorsAppendOneDiagnostic := by
  intro i op s t hop h
  have hends := command_ends hop h
  refine ⟨fun hnone => ?_, fun r hok => ?_, fun k r hresp hk => ?_⟩
  · exact hends.diag_of_no_error fun k r e => by cases hnone.symm.trans e
  · exact hends.diag_of_no_error fun k r' e => by cases hok.symm.trans e; rfl
  · obtain ⟨rfl, e⟩ := hends.errorEffects hresp hk
    exact ⟨rfl, e.record, e.notImporters.1, e.notImporters.2, e.opcodes, e.frame, e.delivered, e.nothingWritten,
      e.linkLeft, e.linkReleased⟩

/-- Settles O50: the codes by the status, and the causes by the way in which a command ends. -/
theorem statusCodesAndCauses : Obligations.StatusCodesAndCauses := by
  refine ⟨fun ⟨status, results⟩ => by cases status <;> rfl, fun i op s t hop h => ?_⟩
  have hends := command_ends hop h
  refine ⟨fun hnone => ?_, fun k r hresp => ?_⟩
  · cases hends with
    | refused hi hseq _ => exact ⟨hi, hseq⟩
    | answered _ _ _ _ _ ht | outOfRange _ _ ht | invalid _ _ _ ht | linkClosed _ ht | portInvalid _ _ _ ht
    | writeCut _ _ _ _ ht => subst ht; cases hnone
  · cases hends with
    | answered u _ hdiag _ _ ht => subst ht; cases hresp; exact hdiag
    | refused _ _ ht => subst ht; cases hresp
    | outOfRange idx hop ht => subst ht; cases hresp; exact ⟨hop, idx, rfl⟩
    | invalid d hop hd ht =>
      subst ht; cases hresp
      obtain ⟨n, rfl⟩ | ⟨c, rfl⟩ := hd
      · exact ⟨hop, .inl ⟨n, rfl⟩⟩
      · exact ⟨hop, .inr ⟨c, rfl⟩⟩
    | linkClosed hop ht => subst ht; cases hresp; exact .inr ⟨hop, rfl⟩
    | portInvalid port hi _ ht => subst ht; cases hresp; exact .inl ⟨port, hi, by simp⟩
    | writeCut ms n hop _ ht => subst ht; cases hresp; exact ⟨hop, n, by simp⟩

end Sys2Proof
end

/-! # Proofs of the family other, part 2: what a command writes to the link, and what it reads of the device -/
section

namespace Sys2Proof
namespace Machine

/-! ### SEND_AUTOEQ, one equation a case -/

section
variable {s : State} {port : Port} {seq : List Byte}

theorem exec_sendAutoeq_of_unset (hseq : s.par.autoeqSeq = none) :
    exec .sendAutoeq s = .next (s.refuse .autoeqUnspecified) := by
  simp only [exec, execSendAutoeq, hseq]

theorem exec_sendAutoeq_of_closed (hseq : s.par.autoeqSeq = some seq) (hlink : s.link = .closed) :
    exec .sendAutoeq s = .next (s.raise 0x11 .linkUnavailableError .none) := by
  simp only [exec, execSendAutoeq, hseq, hlink]

theorem exec_sendAutoeq_of_opened (hseq : s.par.autoeqSeq = some seq) (hlink : s.link = .opened port) :
    exec .sendAutoeq s = .next (s.transmit 0x11 [seq]) := by
  simp only [exec, execSendAutoeq, hseq, hlink]

/-- R213: inside a single message the only boundary is its start. -/
theorem onBoundary_singleton {m : List Byte} {n : Nat} (hn : n < m.length) : onBoundary [m] n = decide (n = 0) := by
  cases n with
  | zero => rfl
  | succ n => rw [onBoundary, decide_eq_false hn.not_ge, Bool.false_and, decide_eq_false n.succ_ne_zero]

end

/-! ### What a command writes to the link -/

/-- R175, R185: what UPLOAD and SEND_AUTOEQ write, message by message. -/
def State.Outgoing (s : State) (ms : List (List Byte)) : Prop :=
  ms = transferFrames s.par (devWords s.bank) ∨ ∃ seq, s.par.autoeqSeq = some seq ∧ ms = [seq]

section
variable {s t : State} {i : Instr}

/-- R232, R234: the link's queue and the device's fault record are touched by a `LinkWrite` alone. -/
theorem command_writes (hi : i.channel = .command) (h : exec i s = .next t) :
    (t.h2d = s.h2d ∧ t.devFault = s.devFault) ∨ ∃ op ms, s.Outgoing ms ∧ t = s.transmit op ms := by
  cases i
  case fragMore | fragFinal | autoeqCmd | sample => cases hi
  case sectionCount | toDevice | toPreview | linkClose => cases h; exact .inl ⟨rfl, rfl⟩
  case upload =>
    cases h; split
    · exact .inl ⟨rfl, rfl⟩
    · exact .inr ⟨0x10, _, .inl rfl, rfl⟩
  case sendAutoeq =>
    cases h; split
    · exact .inl ⟨rfl, rfl⟩
    next seq hseq =>
      split
      · exact .inl ⟨rfl, rfl⟩
      · exact .inr ⟨0x11, _, .inr ⟨seq, hseq, rfl⟩, rfl⟩
  case setSection =>
    cases h; split
    · exact .inl ⟨rfl, rfl⟩
    · split
      · split <;> exact .inl ⟨rfl, rfl⟩
      · exact .inl ⟨rfl, rfl⟩
  case getSection | linkOpen | readAvailable | tickResponse | tickPoll => cases h; left; split <;> simp

/-- R184, R213, R233: a `LinkWrite` appends bytes to the queue, and may record the fault. -/
theorem State.transmit_appends (s : State) (op : Byte) (ms : List (List Byte)) :
    ∃ out, (s.transmit op ms).h2d = s.h2d ++ out ∧
      ((s.transmit op ms).devFault = s.devFault ∨ (s.transmit op ms).devFault = s.devFault.insert .desync) := by
  cases hw : writeFailure s.writeDraw ms.flatten.length with
  | none => rw [s.transmit_ok op ms hw]; exact ⟨_, rfl, .inl rfl⟩
  | some n =>
    rw [s.transmit_fail op ms n hw, State.cutAt_eq]
    refine ⟨_, rfl, ?_⟩
    simp only [State.raise_devFault]
    split
    · exact .inl rfl
    · exact .inr rfl

theorem command_link (hi : i.channel = .command) (h : exec i s = .next t) :
    ∃ out, t.h2d = s.h2d ++ out ∧ (t.devFault = s.devFault ∨ t.devFault = s.devFault.insert .desync) := by
  obtain ⟨hq, hf⟩ | ⟨op, ms, -, rfl⟩ := command_writes hi h
  · exact ⟨[], by rw [hq, List.append_nil], .inl hf⟩
  · exact s.transmit_appends op ms

/-- R258: no command takes a recorded fault away. -/
theorem command_keeps_fault (hi : i.channel = .command) (h : exec i s = .next t) {f : DeviceFault}
    (hf : f ∈ s.devFault) : f ∈ t.devFault := by
  obtain ⟨-, -, he | he⟩ := command_link hi h
  · rwa [he]
  · rw [he]; exact List.mem_insert_of_mem hf

end

/-! ### What a command reads of the device -/

/-- The host of `s` beside the device of `d`, with what is in flight to it. -/
def State.onDevice (s d : State) : State :=
  { s with
    h2d := d.h2d, devActive := d.devActive, devShadow := d.devShadow, devWmask := d.devWmask, devRx := d.devRx
    devMode := d.devMode, devDly := d.devDly, devFault := d.devFault, sampleOut := d.sampleOut, draws := d.draws }

/-- R265: the command does beside the device of `d` what it does beside that of `s`, writing the same bytes. -/
def SameBeside (i : Instr) (s t d : State) : Prop :=
  ∃ out fault, t.h2d = s.h2d ++ out ∧
    exec i (s.onDevice d) = .next (t.onDevice { d with h2d := d.h2d ++ out, devFault := fault })

section
variable {i : Instr} {s t : State}

/-- A command that writes nothing to the link. -/
theorem SameBeside.of_silent {d : State} (hq : t.h2d = s.h2d) (h : exec i (s.onDevice d) = .next (t.onDevice d)) :
    SameBeside i s t d :=
  ⟨[], d.devFault, by rw [hq, List.append_nil], by rw [h, List.append_nil]⟩

/-- R233: where a write fails is a draw of the host's, and what it leaves in flight does not depend on the device. -/
theorem State.transmit_onDevice (s d : State) (op : Byte) (ms : List (List Byte)) :
    ∃ out fault, (s.transmit op ms).h2d = s.h2d ++ out ∧
      (s.onDevice d).transmit op ms =
        (s.transmit op ms).onDevice { d with h2d := d.h2d ++ out, devFault := fault } := by
  cases hw : writeFailure s.writeDraw ms.flatten.length with
  | none =>
    rw [s.transmit_ok op ms hw, (s.onDevice d).transmit_ok op ms hw]
    exact ⟨ms.flatten, d.devFault, rfl, rfl⟩
  | some n =>
    rw [s.transmit_fail op ms n hw, (s.onDevice d).transmit_fail op ms n hw, State.cutAt_eq, State.cutAt_eq]
    exact ⟨ms.flatten.take n, _, rfl, rfl⟩

/-- A case of the host's state in which the command has one outcome, writing nothing to the link: the case is the same
beside every device. -/
theorem SameBeside.of_eq {u d : State} (h : exec i s = .next t) (hs : exec i s = .next u) (hq : u.h2d = s.h2d)
    (hd : exec i (s.onDevice d) = .next (u.onDevice d)) : SameBeside i s t d := by
  cases hs.symm.trans h
  exact .of_silent hq hd

theorem exec_getSection_of_inside {idx : Byte} (hidx : idx.toNat < s.par.N) :
    exec (.getSection idx) s = .next (s.answer (.words (s.sectionAt idx.toNat).words)) :=
  congrArg _ (if_neg hidx.not_ge)

theorem sameBeside_setSection {idx : Byte} {ws : List Word} (d : State) (h : exec (.setSection idx ws) s = .next t) :
    SameBeside (.setSection idx ws) s t d := by
  obtain hout | hidx := le_or_gt s.par.N idx.toNat
  · exact .of_eq h (exec_setSection_of_outside hout) rfl (exec_setSection_of_outside (s := s.onDevice d) hout)
  obtain hn | hn := ne_or_eq ws.length 5
  · exact .of_eq h (exec_setSection_of_count hidx hn) rfl (exec_setSection_of_count (s := s.onDevice d) hidx hn)
  cases hbad : firstNonFinite ws with
  | some c =>
    exact .of_eq h (exec_setSection_of_nonFinite hidx hn hbad) rfl
      (exec_setSection_of_nonFinite (s := s.onDevice d) hidx hn hbad)
  | none =>
    match ws, hn with
    | [b0, b1, b2, a1, a2], _ =>
      exact .of_eq h (exec_setSection_of_finite (b := ⟨b0, b1, b2, a1, a2⟩) hidx hbad) rfl
        (exec_setSection_of_finite (s := s.onDevice d) (b := ⟨b0, b1, b2, a1, a2⟩) hidx hbad)

theorem sameBeside_linkOpen {port : Port} (d : State) (h : exec (.linkOpen port) s = .next t) :
    SameBeside (.linkOpen port) s t d := by
  cases hport : s.par.portValid port with
  | true =>
    refine .of_eq h (exec_linkOpen_of_valid hport) (by simp)
      ((exec_linkOpen_of_valid (s := s.onDevice d) hport).trans ?_)
    rw [State.releaseLink_eq, State.releaseLink_eq]
    rfl
  | false =>
    refine .of_eq h (exec_linkOpen_of_invalid hport) (by simp)
      ((exec_linkOpen_of_invalid (s := s.onDevice d) hport).trans ?_)
    rw [State.releaseLink_eq, State.releaseLink_eq]
    rfl

/-- R175, R185: a command that is one `LinkWrite` beside every device. -/
theorem SameBeside.of_transmit {op : Byte} {ms : List (List Byte)} {d : State} (h : exec i s = .next t)
    (hs : exec i s = .next (s.transmit op ms)) (hd : exec i (s.onDevice d) = .next ((s.onDevice d).transmit op ms)) :
    SameBeside i s t d := by
  cases hs.symm.trans h
  obtain ⟨out, fault, hq, he⟩ := s.transmit_onDevice d op ms
  exact ⟨out, fault, hq, hd.trans (congrArg _ he)⟩

/-- R265: what a command does, it does beside every device. -/
theorem command_sameBeside (hi : i.channel = .command) (h : exec i s = .next t) (d : State) : SameBeside i s t d := by
  cases i
  case fragMore | fragFinal | autoeqCmd | sample => cases hi
  case sectionCount | toDevice | toPreview | linkClose => cases h; exact .of_silent rfl rfl
  case getSection idx =>
    obtain hout | hidx := le_or_gt s.par.N idx.toNat
    · exact .of_eq h (exec_getSection_of_outside hout) rfl (exec_getSection_of_outside (s := s.onDevice d) hout)
    · exact .of_eq h (exec_getSection_of_inside hidx) rfl (exec_getSection_of_inside (s := s.onDevice d) hidx)
  case setSection => exact sameBeside_setSection d h
  case linkOpen => exact sameBeside_linkOpen d h
  case tickResponse =>
    by_cases hclean : s.respSnap = some (flatten s.bank)
    · exact .of_eq h (exec_tickResponse_of_clean hclean) rfl (exec_tickResponse_of_clean (s := s.onDevice d) hclean)
    · exact .of_eq h (exec_tickResponse_of_dirty hclean) rfl (exec_tickResponse_of_dirty (s := s.onDevice d) hclean)
  case upload =>
    cases hlink : s.link with
    | closed => exact .of_eq h (exec_upload_of_closed hlink) rfl (exec_upload_of_closed (s := s.onDevice d) hlink)
    | opened port =>
      exact .of_transmit h (exec_upload_of_opened hlink) (exec_upload_of_opened (s := s.onDevice d) hlink)
  case sendAutoeq =>
    cases hseq : s.par.autoeqSeq with
    | none =>
      exact .of_eq h (exec_sendAutoeq_of_unset hseq) rfl (exec_sendAutoeq_of_unset (s := s.onDevice d) hseq)
    | some seq =>
      cases hlink : s.link with
      | closed =>
        exact .of_eq h (exec_sendAutoeq_of_closed hseq hlink) rfl
          (exec_sendAutoeq_of_closed (s := s.onDevice d) hseq hlink)
      | opened port =>
        exact .of_transmit h (exec_sendAutoeq_of_opened hseq hlink)
          (exec_sendAutoeq_of_opened (s := s.onDevice d) hseq hlink)
  case readAvailable =>
    cases hlink : s.link with
    | closed =>
      exact .of_eq h (exec_readAvailable_of_closed hlink) rfl (exec_readAvailable_of_closed (s := s.onDevice d) hlink)
    | opened port =>
      exact .of_eq h (exec_readAvailable_of_opened hlink) rfl (exec_readAvailable_of_opened (s := s.onDevice d) hlink)
  case tickPoll =>
    cases hlink : s.link with
    | closed => exact .of_eq h (exec_tickPoll_of_closed hlink) rfl (exec_tickPoll_of_closed (s := s.onDevice d) hlink)
    | opened port =>
      exact .of_eq h (exec_tickPoll_of_opened hlink) rfl (exec_tickPoll_of_opened (s := s.onDevice d) hlink)

end
end Machine

open Machine

/-- Settles O26, one case of SEND_AUTOEQ a clause. -/
theorem sendAutoeqAppendsTheCommand : Obligations.SendAutoeqAppendsTheCommand := by
  intro s
  refine ⟨exec_sendAutoeq_of_unset, fun seq => exec_sendAutoeq_of_closed, fun seq port hseq hlink hdraw => ?_,
    fun seq port n hseq hlink hdraw hn => ?_⟩
  · have hlen : [seq].flatten = seq := List.flatten_singleton
    rw [exec_sendAutoeq_of_opened hseq hlink, State.transmit_ok _ _ _ (writeFailure_eq_none (hlen.symm ▸ hdraw)), hlen]
  · have hlen : [seq].flatten = seq := List.flatten_singleton
    rw [exec_sendAutoeq_of_opened hseq hlink, State.transmit_fail _ _ _ n (writeFailure_eq_some hdraw (hlen.symm ▸ hn)),
      State.cutAt_eq, hlen, onBoundary_singleton hn]
    simp [State.raise]

/-- Settles O54: the second run is the first one beside the other device. -/
theorem hostNeverReadsTheDevice : Obligations.HostNeverReadsTheDevice := by
  intro i s s' t t' hi hs' h h'
  obtain ⟨out, fault, hq, hbeside⟩ := command_sameBeside hi h s'
  have hsame : s.onDevice s' = s' := hs'.symm
  rw [hsame] at hbeside
  cases hbeside.symm.trans h'
  exact ⟨out, hq, rfl, rfl⟩

end Sys2Proof
end

/-! # Proofs of the family other, part 3: what one step can do, and what it leaves -/
section

namespace Sys2Proof
namespace Machine

/-! ### The cases of a step -/

/-- What a step from `s` to `t` was: the event it took, and what that event's agent then did (R3, R80, R84, R200, R260,
R281). -/
inductive StepCase (s t : State) : Prop where
  | command (bytes : List Byte) (draw : Option Nat) (i : Instr) (rest : List Byte)
      (hev : s.nextEvent = .command bytes draw) (hdec : decodeCommand bytes = .ok i rest)
      (h : exec i (State.pushBack { s.popEvent with writeDraw := draw } rest draw) = .next t)
  | reserved (bytes : List Byte) (draw : Option Nat) (hev : s.nextEvent = .command bytes draw)
      (ht : t = s.popEvent.refuse .reservedOpcode)
  | tick (i : Instr) (hev : s.nextEvent = .timerResponse ∧ i = .tickResponse ∨ s.nextEvent = .timerPoll ∧ i = .tickPoll)
      (h : exec i s.popEvent = .next t)
  | rxWaits (hev : s.nextEvent = .devRx) (hstuck : DeviceFault.desync ∈ s.devFault ∨ s.h2d = []) (ht : t = s.popEvent)
  | rxMoves (b : Byte) (rest : List Byte) (st : RxState) (hev : s.nextEvent = .devRx)
      (hfault : DeviceFault.desync ∉ s.devFault) (hq : s.h2d = b :: rest) (ho : rxAccept s.par s.devRx b = .goto st)
      (ht : t = State.setRx { s.popEvent with h2d := rest } st)
  | rxRuns (b : Byte) (rest : List Byte) (i : Instr) (hev : s.nextEvent = .devRx)
      (hfault : DeviceFault.desync ∉ s.devFault) (hq : s.h2d = b :: rest) (ho : rxAccept s.par s.devRx b = .run i)
      (h : exec i { s.popEvent with h2d := rest } = .next t)
  | rxDesyncs (b : Byte) (rest : List Byte) (hev : s.nextEvent = .devRx)
      (hfault : DeviceFault.desync ∉ s.devFault) (hq : s.h2d = b :: rest) (ho : rxAccept s.par s.devRx b = .desync)
      (ht : t = State.recordFault { s.popEvent with h2d := rest } .desync)
  | telemetry (b : Byte) (hev : s.nextEvent = .devTx b) (ht : t = s.popEvent.telemetryByte b)
  | sample (x : Number) (hev : s.nextEvent = .sample x) (h : exec (.sample x) s.popEvent = .next t)
  | blockReset (hev : s.nextEvent = .blockReset) (ht : t = s.popEvent.blockReset)
  | deviceReset (hev : s.nextEvent = .deviceReset) (ht : t = s.popEvent.deviceReset)

section
variable {s t : State}

theorem step_of_nextEvent {e : Event} (hev : s.nextEvent = e) : step s = deliver e s.popEvent :=
  congrArg (deliver · s.popEvent) hev

theorem StepCase.of_command {bytes : List Byte} {draw : Option Nat} (hev : s.nextEvent = .command bytes draw)
    (h : hostCommand bytes draw s.popEvent = .next t) : StepCase s t := by
  unfold hostCommand at h
  split at h
  next i rest hdec => exact .command bytes draw i rest hev hdec h
  next => cases h; exact .reserved bytes draw hev rfl
  next => cases h

theorem StepCase.of_devRx (hev : s.nextEvent = .devRx) (h : devRxStep s.popEvent = .next t) : StepCase s t := by
  unfold devRxStep at h
  split at h
  next hfault => cases h; exact .rxWaits hev (.inl (List.contains_iff_mem.1 hfault)) rfl
  next hfault =>
    have hfault : DeviceFault.desync ∉ s.devFault := mt List.contains_iff_mem.2 hfault
    split at h
    next hq => cases h; exact .rxWaits hev (.inr hq) rfl
    next b rest hq =>
      cases ho : rxAccept s.par s.devRx b with
      | goto st => cases (congrArg (rxFinish · _) ho).symm.trans h; exact .rxMoves b rest st hev hfault hq ho rfl
      | run i => exact .rxRuns b rest i hev hfault hq ho ((congrArg (rxFinish · _) ho).symm.trans h)
      | desync => cases (congrArg (rxFinish · _) ho).symm.trans h; exact .rxDesyncs b rest hev hfault hq ho rfl

/-- R3, R34: every step is one of these. -/
theorem step_cases (h : step s = .next t) : StepCase s t := by
  cases hev : s.nextEvent with
  | command bytes draw => exact .of_command hev ((step_of_nextEvent hev).symm.trans h)
  | timerResponse => exact .tick .tickResponse (.inl ⟨hev, rfl⟩) ((step_of_nextEvent hev).symm.trans h)
  | timerPoll => exact .tick .tickPoll (.inr ⟨hev, rfl⟩) ((step_of_nextEvent hev).symm.trans h)
  | devRx => exact .of_devRx hev ((step_of_nextEvent hev).symm.trans h)
  | devTx b => cases (step_of_nextEvent hev).symm.trans h; exact .telemetry b hev rfl
  | sample x => exact .sample x hev ((step_of_nextEvent hev).symm.trans h)
  | blockReset => cases (step_of_nextEvent hev).symm.trans h; exact .blockReset hev rfl
  | deviceReset => cases (step_of_nextEvent hev).symm.trans h; exact .deviceReset hev rfl

theorem tick_channel {i : Instr}
    (h : s.nextEvent = .timerResponse ∧ i = .tickResponse ∨ s.nextEvent = .timerPoll ∧ i = .tickPoll) :
    i.channel = .command := by
  obtain ⟨-, rfl⟩ | ⟨-, rfl⟩ := h <;> rfl

/-- R206, R211: the messages that a byte can complete. -/
theorem rxAccept_eq_run {p : Params} {st : RxState} {b : Byte} {i : Instr} (h : rxAccept p st b = .run i) :
    (i = .autoeqCmd ∧ p.autoeqSeq.isSome = true) ∨ ∃ pc si d, st = .awaitTerm pc si d ∧
      (b = p.termMore ∧ i = .fragMore si (wordsOf d) ∨ b = p.termFinal ∧ i = .fragFinal si (wordsOf d)) := by
  cases st with
  | idle =>
    rw [rxAccept, rxIdle] at h
    split at h
    · cases h
    · split at h
      next hseq =>
        split at h
        · split at h
          · cases h; exact .inl ⟨rfl, hseq ▸ rfl⟩
          · cases h
        · cases h
      next => cases h
  | gotPc pc => rw [rxAccept] at h; split at h <;> cases h
  | data pc si d => rw [rxAccept] at h; split at h <;> cases h
  | awaitTerm pc si d =>
    rw [rxAccept, frameOf] at h
    refine .inr ⟨pc, si, d, rfl, ?_⟩
    split at h
    next i' hi =>
      cases h
      split at hi
      next hb => cases hi; exact .inl ⟨hb, rfl⟩
      next =>
        split at hi
        next hb => cases hi; exact .inr ⟨hb, rfl⟩
        next => cases hi
    next => cases h
  | seq m =>
    rw [rxAccept, rxSeq] at h
    split at h
    next hseq =>
      split at h
      · split at h
        · cases h; exact .inl ⟨rfl, hseq ▸ rfl⟩
        · cases h
      · cases h
    next => cases h

theorem rxAccept_eq_run_channel {p : Params} {st : RxState} {b : Byte} {i : Instr} (h : rxAccept p st b = .run i) :
    i.channel = .link := by
  obtain ⟨rfl, -⟩ | ⟨_, _, _, -, ⟨-, rfl⟩ | ⟨-, rfl⟩⟩ := rxAccept_eq_run h <;> rfl

/-! ### What the device's operations leave of the block -/

/-- The block's state that no step of the device touches, but for telemetry. -/
structure SameBlock (s t : State) : Prop where
  par : t.par = s.par
  bank : t.bank = s.bank
  respSnap : t.respSnap = s.respSnap
  respPub : t.respPub = s.respPub
  link : t.link = s.link
  d2h : t.d2h = s.d2h
  diag : t.diag = s.diag
  telem : t.telem = s.telem
  refused : ∀ n ∈ s.refused, n ∈ t.refused

/-- R281: a link message or a sample leaves the block alone, but for a refusal's mark (R259). -/
theorem exec_sameBlock {i : Instr} (hi : i.channel = .link ∨ i.channel = .datapath) (h : exec i s = .next t) :
    SameBlock s t := by
  cases i
  case fragMore | fragFinal => cases h; split <;> constructor <;> simp
  case autoeqCmd => cases h; constructor <;> simp
  case sample =>
    cases h; split
    · exact ⟨rfl, rfl, rfl, rfl, rfl, rfl, rfl, rfl, fun _ hn => List.mem_insert_of_mem hn⟩
    · constructor <;> simp
  all_goals obtain hi | hi := hi <;> cases hi

/-- R214, R215: a sample leaves every part of the device but its delays. -/
theorem exec_sample_frame {x : Number} (h : exec (.sample x) s = .next t) :
    t = { s with devDly := t.devDly, sampleOut := t.sampleOut, refused := t.refused } := by
  cases h; split <;> rfl

/-- R208: FRAG_MORE leaves the active bank and the mode. -/
theorem exec_fragMore_active {si : Byte} {data : List Word} (h : exec (.fragMore si data) s = .next t) :
    t.devActive = s.devActive ∧ t.devMode = s.devMode := by
  cases h; split <;> simp

end
end Machine

open Machine

/-- Settles O53: no operation writes the parameters, and no event does otherwise. -/
theorem parametersNeverChange : Obligations.ParametersNeverChange := by
  intro s t h
  cases step_cases h with
  | command _ _ _ _ _ _ h | tick _ _ h | rxRuns _ _ _ _ _ _ _ h | sample _ _ h => simpa using exec_par h
  | reserved _ _ _ ht | rxWaits _ _ ht | rxMoves _ _ _ _ _ _ _ ht | rxDesyncs _ _ _ _ _ _ ht | telemetry _ _ ht
  | blockReset _ ht | deviceReset _ ht => subst ht; simp

/-- Settles O9: a command other than SET_SECTION keeps the bank, and so does every event but a block reset. -/
theorem onlySetSectionWritesTheBank : Obligations.OnlySetSectionWritesTheBank := by
  intro s t h hne
  cases step_cases h with
  | command bytes draw i rest hev hdec h =>
    by_cases hset : ∃ idx ws, i = .setSection idx ws
    · obtain ⟨idx, ws, rfl⟩ := hset
      exact .inr ⟨bytes, draw, idx, ws, rest, hev, hdec⟩
    · have hbank := exec_bank_of_ne_setSection (fun idx ws e => hset ⟨idx, ws, e⟩) h
      exact absurd (by simpa using hbank) hne
  | tick i hev h =>
    have hbank := exec_bank_of_ne_setSection (by obtain ⟨-, rfl⟩ | ⟨-, rfl⟩ := hev <;> nofun) h
    exact absurd hbank hne
  | rxRuns _ _ _ _ _ _ ho h =>
    exact absurd (exec_sameBlock (.inl (rxAccept_eq_run_channel ho)) h).bank hne
  | sample _ _ h => exact absurd (exec_sameBlock (.inr rfl) h).bank hne
  | blockReset hev => exact .inl hev
  | reserved _ _ _ ht | rxWaits _ _ ht | rxMoves _ _ _ _ _ _ _ ht | rxDesyncs _ _ _ _ _ _ ht | telemetry _ _ ht
  | deviceReset _ ht => subst ht; simp at hne

/-- Settles O52: each way in which a command ends, and each event of the device, keeps the sinks. -/
theorem sinksOnlyGrow : Obligations.SinksOnlyGrow := by
  intro s t hev h
  suffices hkept : SinksKept s t from ⟨hkept.diag, hkept.telem, hkept.refused⟩
  cases step_cases h with
  | command _ _ i rest _ hdec h =>
    obtain ⟨op, hop⟩ := exists_opcode_of_command (decodeCommand_channel hdec)
    obtain ⟨hdiag, htelem, hrefused⟩ := (command_ends hop h).sinksKept
    exact ⟨by simpa using hdiag, by simpa using htelem, by simpa using hrefused⟩
  | tick i hev h =>
    obtain ⟨op, hop⟩ := exists_opcode_of_command (tick_channel hev)
    obtain ⟨hdiag, htelem, hrefused⟩ := (command_ends hop h).sinksKept
    exact ⟨hdiag, htelem, hrefused⟩
  | reserved _ _ _ ht =>
    obtain ⟨hdiag, htelem, hrefused⟩ := SinksKept.refuse s.popEvent .reservedOpcode
    exact ht ▸ ⟨hdiag, htelem, hrefused⟩
  | rxRuns _ _ _ _ _ _ ho h =>
    have hsame := exec_sameBlock (.inl (rxAccept_eq_run_channel ho)) h
    exact ⟨by simp [hsame.diag], by simp [hsame.telem], hsame.refused⟩
  | sample _ _ h =>
    have hsame := exec_sameBlock (.inr rfl) h
    exact ⟨by simp [hsame.diag], by simp [hsame.telem], hsame.refused⟩
  | blockReset he => exact absurd he hev
  | rxWaits _ _ ht | rxMoves _ _ _ _ _ _ _ ht | rxDesyncs _ _ _ _ _ _ ht | telemetry _ _ ht | deviceReset _ ht =>
    subst ht; constructor <;> simp

/-- Settles O36: only FRAG_FINAL writes the active bank or sets the mode to normal, and `TERM_FINAL` completes it. -/
theorem onlyACommitChangesTheActiveBank : Obligations.OnlyACommitChangesTheActiveBank := by
  intro s t h hchange
  have hkept : ¬(t.devActive = s.devActive ∧ (t.devMode = s.devMode ∨ t.devMode = .autoeq)) := by
    rintro ⟨hactive, hmode⟩
    obtain hne | ⟨hauto, hnormal⟩ := hchange
    · exact hne hactive
    · obtain hsame | hentered := hmode
      · cases (hauto.symm.trans hsame.symm).trans hnormal
      · cases hentered.symm.trans hnormal
  cases step_cases h with
  | command _ _ i rest _ hdec h =>
    have hsame := exec_command_sameDevice (decodeCommand_channel hdec) h
    exact absurd ⟨by simpa using hsame.devActive, .inl (by simpa using hsame.devMode)⟩ hkept
  | tick i hev h =>
    have hsame := exec_command_sameDevice (tick_channel hev) h
    exact absurd ⟨hsame.devActive, .inl hsame.devMode⟩ hkept
  | rxRuns b rest i hev hfault hq ho h =>
    obtain ⟨rfl, -⟩ | ⟨pc, si, d, hst, ⟨-, rfl⟩ | ⟨rfl, rfl⟩⟩ := rxAccept_eq_run ho
    · cases h; exact absurd ⟨rfl, .inr rfl⟩ hkept
    · obtain ⟨hactive, hmode⟩ := exec_fragMore_active h
      exact absurd ⟨hactive, .inl hmode⟩ hkept
    · exact .inr ⟨hev, hfault, by rw [hq]; rfl, pc, si, d, hst⟩
  | sample x _ h =>
    rw [exec_sample_frame h] at hkept
    exact absurd ⟨rfl, .inl rfl⟩ hkept
  | deviceReset hev => exact .inl hev
  | reserved _ _ _ ht | rxWaits _ _ ht | rxMoves _ _ _ _ _ _ _ ht | rxDesyncs _ _ _ _ _ _ ht | telemetry _ _ ht
  | blockReset _ ht => subst ht; simp at hkept

/-- Settles O47: no command touches the device but to record the fault, and DEV_RX takes no byte. -/
theorem desyncIsSticky : Obligations.DesyncIsSticky := by
  intro s t hfault hev h
  cases step_cases h with
  | command _ _ i rest _ hdec h =>
    have hsame := exec_command_sameDevice (decodeCommand_channel hdec) h
    have hkept := command_keeps_fault (decodeCommand_channel hdec) h (f := .desync) (by simpa using hfault)
    exact ⟨hkept, by simpa using hsame.devActive, by simpa using hsame.devShadow, by simpa using hsame.devWmask,
      by simpa using hsame.devRx, by simpa using hsame.devMode⟩
  | tick i he h =>
    have hsame := exec_command_sameDevice (tick_channel he) h
    exact ⟨command_keeps_fault (tick_channel he) h hfault, hsame.devActive, hsame.devShadow, hsame.devWmask,
      hsame.devRx, hsame.devMode⟩
  | rxMoves _ _ _ _ hf | rxRuns _ _ _ _ hf | rxDesyncs _ _ _ hf => exact absurd hfault hf
  | sample x _ h => rw [exec_sample_frame h]; exact ⟨hfault, rfl, rfl, rfl, rfl, rfl⟩
  | deviceReset he => exact absurd he hev
  | reserved _ _ _ ht | rxWaits _ _ ht | telemetry _ _ ht | blockReset _ ht => subst ht; simpa using hfault

end Sys2Proof
end

/-! # Proofs of the family other, part 4: the invariant -/
section

namespace Sys2Proof
namespace Machine

/-! ### The invariant's two halves -/

/-- The block's part of `State.Inv` (R20, R23, R26, R150, R231). -/
structure State.BlockInv (s : State) : Prop where
  bankLength : s.bank.length = s.par.N
  bankFinite : ∀ b ∈ s.bank, b.finite = true
  published : s.respPub = s.respSnap.map (response s.par)
  snapLength : ∀ w, s.respSnap = some w → w.length = s.par.NF
  closedEmpty : s.link = .closed → s.d2h = []

/-- The device's part of `State.Inv` (R35 to R38, R40). -/
structure State.DeviceInv (s : State) : Prop where
  activeLength : s.devActive.length = s.par.NF
  shadowLength : s.devShadow.length = s.par.NF
  wmaskLength : s.devWmask.length = s.par.NF
  dlyLength : s.devDly.length = s.par.N
  rxOk : RxState.Ok s.par s.devRx

theorem State.inv_iff {s : State} : s.Inv ↔ s.par.Valid ∧ s.BlockInv ∧ s.DeviceInv :=
  ⟨fun h => ⟨h.parValid, ⟨h.bankLength, h.bankFinite, h.published, h.snapLength, h.closedEmpty⟩,
      ⟨h.activeLength, h.shadowLength, h.wmaskLength, h.dlyLength, h.rxOk⟩⟩,
    fun ⟨hp, hb, hd⟩ => ⟨hp, hb.bankLength, hb.bankFinite, hb.published, hb.snapLength, hb.closedEmpty,
      hd.activeLength, hd.shadowLength, hd.wmaskLength, hd.dlyLength, hd.rxOk⟩⟩

section
variable {s t : State}

theorem State.BlockInv.of_same (hs : s.BlockInv) (hpar : t.par = s.par) (hbank : t.bank = s.bank)
    (hsnap : t.respSnap = s.respSnap) (hpub : t.respPub = s.respPub) (hlink : t.link = .closed → t.d2h = []) :
    t.BlockInv := by
  obtain ⟨hlen, hfin, hp, hw, -⟩ := hs
  exact ⟨by rw [hbank, hpar, hlen], by rwa [hbank], by rw [hpub, hsnap, hpar, hp], by rwa [hsnap, hpar], hlink⟩

theorem State.DeviceInv.of_same (hs : s.DeviceInv) (hpar : t.par = s.par) (hactive : t.devActive = s.devActive)
    (hshadow : t.devShadow = s.devShadow) (hwmask : t.devWmask = s.devWmask) (hdly : t.devDly = s.devDly)
    (hrx : t.devRx.Ok t.par) : t.DeviceInv := by
  obtain ⟨ha, hsh, hw, hd, -⟩ := hs
  exact ⟨by rw [hactive, hpar, ha], by rw [hshadow, hpar, hsh], by rw [hwmask, hpar, hw], by rw [hdly, hpar, hd], hrx⟩

theorem SameBlock.blockInv (h : SameBlock s t) (hs : s.BlockInv) : t.BlockInv :=
  hs.of_same h.par h.bank h.respSnap h.respPub (by rw [h.link, h.d2h]; exact hs.closedEmpty)

theorem SameDevice.deviceInv (h : SameDevice s t) (hs : s.DeviceInv) : t.DeviceInv :=
  hs.of_same h.par h.devActive h.devShadow h.devWmask h.devDly (by rw [h.par, h.devRx]; exact hs.rxOk)

/-! ### Commands -/

/-- R23, R112: SET_SECTION stores finite words only. -/
theorem State.BlockInv.setSection (hs : s.BlockInv) {idx : Byte} {ws : List Word}
    (h : exec (.setSection idx ws) s = .next t) : t.BlockInv := by
  cases h; split
  · exact hs.of_same rfl rfl rfl rfl hs.closedEmpty
  · split
    next b0 b1 b2 a1 a2 =>
      split
      next => exact hs.of_same rfl rfl rfl rfl hs.closedEmpty
      next hnone =>
        obtain ⟨hlen, hfin, hp, hw, hc⟩ := hs
        refine ⟨by simpa using hlen, fun b hb => ?_, hp, hw, hc⟩
        obtain hb | rfl := List.mem_or_eq_of_mem_set hb
        · exact hfin b hb
        · refine List.all_eq_true.2 fun w hw => ?_
          exact (wordFinite_iff w).2 ((firstNonFinite_eq_none_iff _).1 hnone w hw)
    next => exact hs.of_same rfl rfl rfl rfl hs.closedEmpty

/-- R26, R150: what TICK_RESPONSE publishes is the response of its snapshot. -/
theorem State.BlockInv.tickResponse (hs : s.BlockInv) (h : exec .tickResponse s = .next t) : t.BlockInv := by
  cases h; split
  · exact hs.of_same rfl rfl rfl rfl hs.closedEmpty
  · obtain ⟨hlen, hfin, -, -, hc⟩ := hs
    refine ⟨hlen, hfin, rfl, fun w hw => ?_, hc⟩
    cases hw
    rw [flatten_length, hlen]
    rfl

/-- R231: whatever a command does to the link, no telemetry waits behind a closed one. -/
theorem State.BlockInv.command {i : Instr} (hs : s.BlockInv) (hi : i.channel = .command) (h : exec i s = .next t) :
    t.BlockInv := by
  cases i
  case fragMore | fragFinal | autoeqCmd | sample => cases hi
  case setSection => exact hs.setSection h
  case tickResponse => exact hs.tickResponse h
  case sectionCount | toDevice | toPreview => cases h; exact hs.of_same rfl rfl rfl rfl hs.closedEmpty
  case linkClose => cases h; exact hs.of_same rfl rfl rfl rfl fun _ => rfl
  case getSection => cases h; split <;> exact hs.of_same rfl rfl rfl rfl hs.closedEmpty
  case upload =>
    cases h; split
    · exact hs.of_same rfl rfl rfl rfl hs.closedEmpty
    · exact hs.of_same (by simp) (by simp) (by simp) (by simp) (by simpa using hs.closedEmpty)
  case sendAutoeq =>
    cases h; split
    · exact hs.of_same rfl rfl rfl rfl hs.closedEmpty
    · split
      · exact hs.of_same rfl rfl rfl rfl hs.closedEmpty
      · exact hs.of_same (by simp) (by simp) (by simp) (by simp) (by simpa using hs.closedEmpty)
  case linkOpen =>
    cases h; split
    · exact hs.of_same (by simp) (by simp) (by simp) (by simp) (by simp)
    · have hreleased : s.releaseLink.d2h = [] := by
        rw [State.releaseLink_eq]
        exact ite_eq_right_iff.2 hs.closedEmpty
      exact hs.of_same (by simp) (by simp) (by simp) (by simp) fun _ => hreleased
  case readAvailable | tickPoll =>
    cases h; split
    · exact hs.of_same rfl rfl rfl rfl hs.closedEmpty
    · exact hs.of_same rfl rfl rfl rfl fun _ => rfl

theorem State.Inv.command {i : Instr} (hs : s.Inv) (hi : i.channel = .command) (h : exec i s = .next t) : t.Inv := by
  obtain ⟨hp, hb, hd⟩ := State.inv_iff.1 hs
  exact State.inv_iff.2 ⟨exec_par h ▸ hp, hb.command hi h, (exec_command_sameDevice hi h).deviceInv hd⟩

/-! ### The device -/

/-- R201 to R205, R211: the bounds of the parse states are kept by every byte. -/
theorem rxAccept_goto_ok {p : Params} {st st' : RxState} {b : Byte} (hok : st.Ok p) (h : rxAccept p st b = .goto st') :
    st'.Ok p := by
  cases st with
  | idle =>
    rw [rxAccept, rxIdle] at h
    split at h
    next hb => cases h; exact (startsFrame_iff b).1 hb
    next =>
      split at h
      next a cs hseq =>
        split at h
        next =>
          split at h
          next => cases h
          next hcs => cases h; exact ⟨_, hseq, le_rfl, by simpa [List.length_pos_iff] using hcs⟩
        next => cases h
      next => cases h
  | gotPc pc =>
    obtain ⟨hpos, hmax⟩ := hok
    rw [rxAccept] at h
    split at h
    next hfit => cases h; exact ⟨hpos, hmax, hfit, Nat.mul_pos (by decide) hpos⟩
    next => cases h
  | data pc si d =>
    obtain ⟨hpos, hmax, hfit, hd⟩ := hok
    rw [rxAccept_data] at h
    cases h
    split
    next hlast => exact ⟨hpos, hmax, hfit, by simpa using hlast⟩
    next hmore => exact ⟨hpos, hmax, hfit, by rw [List.length_append, List.length_singleton]; omega⟩
  | awaitTerm pc si d => rw [rxAccept] at h; split at h <;> cases h
  | seq m =>
    obtain ⟨q, hseq, hpos, hm⟩ := hok
    by_cases hb : q[m]? = some b
    · rw [rxAccept_seq_of_match hseq hb] at h
      split at h
      · cases h
      · cases h; exact ⟨q, hseq, by omega, by omega⟩
    · cases (rxAccept_seq_of_break hseq hb).symm.trans h

/-- R40, R214: the sample step writes one delay record for each it read. -/
@[simp] theorem cascadeStep_length (A : DevArith) (ws : List Word) (ds : List Delay) (u : Number) :
    (cascadeStep A ws ds u).1.length = ds.length := by
  fun_induction cascadeStep A ws ds u with
  | case1 => simp_all
  | case2 => rfl

theorem State.DeviceInv.message {i : Instr} (hs : s.DeviceInv) (hi : i.channel = .link) (h : exec i s = .next t) :
    t.DeviceInv := by
  obtain ⟨ha, hsh, hw, hd, hrx⟩ := hs
  cases i
  case fragMore =>
    cases h; split
    · exact ⟨ha, by simpa using hsh, by simpa using hw, hd, trivial⟩
    · exact ⟨ha, hsh, hw, hd, hrx⟩
  case fragFinal =>
    cases h; split
    · refine ⟨by simp, by simpa using hsh, by simp, ?_, trivial⟩
      simp only [State.setRx_devDly, State.commit_devDly]
      split
      · simp
      · exact hd
    · exact ⟨ha, hsh, hw, hd, hrx⟩
  case autoeqCmd => cases h; exact ⟨ha, hsh, hw, hd, trivial⟩
  all_goals cases hi

theorem State.DeviceInv.sample {x : Number} (hs : s.DeviceInv) (h : exec (.sample x) s = .next t) : t.DeviceInv := by
  obtain ⟨ha, hsh, hw, hd, hrx⟩ := hs
  cases h; split
  · exact ⟨ha, hsh, hw, hd, hrx⟩
  · exact ⟨ha, hsh, hw, by simpa using hd, hrx⟩

theorem State.Inv.device {i : Instr} (hs : s.Inv) (hi : i.channel = .link ∨ ∃ x, i = .sample x)
    (h : exec i s = .next t) : t.Inv := by
  obtain ⟨hp, hb, hd⟩ := State.inv_iff.1 hs
  refine State.inv_iff.2 ⟨exec_par h ▸ hp, ?_, ?_⟩
  · exact (exec_sameBlock (hi.imp id fun ⟨x, hx⟩ => hx ▸ rfl) h).blockInv hb
  · obtain hi | ⟨x, rfl⟩ := hi
    · exact hd.message hi h
    · exact hd.sample h

/-! ### Events and resets -/

theorem State.BlockInv.reset (s : State) : s.blockReset.BlockInv := by
  refine ⟨bankAtReset_length _, fun b hb => ?_, rfl, nofun, fun _ => rfl⟩
  rw [List.eq_of_mem_replicate hb]
  decide

theorem State.DeviceInv.reset (s : State) : s.deviceReset.DeviceInv :=
  ⟨by simp, by simp, by simp, by simp, trivial⟩

/-- R6, R280, R281: legal parameters suffice for the invariant after reset. -/
theorem inv_resetOf {p : Params} (hp : p.Valid) : (State.resetOf p).Inv :=
  State.inv_iff.2 ⟨hp, State.BlockInv.reset (State.resetOf p), by simp [State.resetOf], by simp [State.resetOf],
    by simp [State.resetOf], by simp [State.resetOf], trivial⟩

/-- R261: taking an event, and bytes waiting at the port, are no part of the spec's state. -/
theorem State.Inv.issued (hs : s.Inv) (rest : List Byte) (draw : Option Nat) :
    (State.pushBack { s.popEvent with writeDraw := draw } rest draw).Inv := by
  obtain ⟨hp, hb, hd⟩ := State.inv_iff.1 hs
  refine State.inv_iff.2 ⟨by simpa using hp, ?_, ?_⟩
  · exact hb.of_same (by simp) (by simp) (by simp) (by simp) (by simpa using hb.closedEmpty)
  · exact hd.of_same (by simp) (by simp) (by simp) (by simp) (by simp) (by simpa using hd.rxOk)

theorem State.Inv.taken (hs : s.Inv) (q : List Byte) : State.Inv { s.popEvent with h2d := q } := by
  obtain ⟨hp, hb, hd⟩ := State.inv_iff.1 hs
  exact State.inv_iff.2 ⟨hp, hb.of_same rfl rfl rfl rfl hb.closedEmpty, hd.of_same rfl rfl rfl rfl rfl hd.rxOk⟩

theorem State.Inv.popEvent (hs : s.Inv) : s.popEvent.Inv := hs.taken s.h2d

theorem State.BlockInv.telemetryByte (hs : s.BlockInv) (b : Byte) : (s.telemetryByte b).BlockInv := by
  cases hlink : s.link with
  | closed => rwa [State.telemetryByte_of_closed hlink]
  | opened port =>
    rw [State.telemetryByte_of_opened hlink]
    exact hs.of_same rfl rfl rfl rfl fun hclosed => nomatch hlink.symm.trans hclosed

end
end Machine

open Machine

/-- Settles O48: commands, the device's operations and the resets keep each half of the invariant. -/
theorem everyStepKeepsTheInvariant : Obligations.EveryStepKeepsTheInvariant := by
  intro s t hs h
  obtain ⟨hp, hb, hd⟩ := State.inv_iff.1 hs.popEvent
  cases step_cases h with
  | command _ draw i rest _ hdec h => exact (hs.issued rest draw).command (decodeCommand_channel hdec) h
  | tick i hev h => exact hs.popEvent.command (tick_channel hev) h
  | rxRuns _ rest i _ _ _ ho h => exact (hs.taken rest).device (.inl (rxAccept_eq_run_channel ho)) h
  | sample x _ h => exact hs.popEvent.device (.inr ⟨x, rfl⟩) h
  | rxWaits _ _ ht => exact ht ▸ hs.popEvent
  | reserved _ _ _ ht =>
    subst ht
    exact State.inv_iff.2 ⟨hp, hb.of_same rfl rfl rfl rfl hb.closedEmpty, hd.of_same rfl rfl rfl rfl rfl hd.rxOk⟩
  | rxMoves _ _ st _ _ _ ho ht =>
    subst ht
    exact State.inv_iff.2 ⟨hp, hb.of_same rfl rfl rfl rfl hb.closedEmpty,
      hd.of_same rfl rfl rfl rfl rfl (rxAccept_goto_ok hs.rxOk ho)⟩
  | rxDesyncs _ _ _ _ _ _ ht =>
    subst ht
    exact State.inv_iff.2 ⟨hp, hb.of_same rfl rfl rfl rfl hb.closedEmpty, hd.of_same rfl rfl rfl rfl rfl hd.rxOk⟩
  | telemetry b _ ht =>
    subst ht
    exact State.inv_iff.2 ⟨by simpa using hp, hb.telemetryByte b,
      hd.of_same (by simp) (by simp) (by simp) (by simp) (by simp) (by simpa using hd.rxOk)⟩
  | blockReset _ ht =>
    subst ht
    exact State.inv_iff.2 ⟨hp, .reset s.popEvent, hd.of_same rfl rfl rfl rfl rfl hd.rxOk⟩
  | deviceReset _ ht =>
    subst ht
    exact State.inv_iff.2 ⟨hp, hb.of_same rfl rfl rfl rfl hb.closedEmpty, .reset s.popEvent⟩

/-- Settles O4: the reset parameters are standard ones, the opaque record's or the test profile's. -/
theorem resetMeetsInvariant : Obligations.ResetMeetsInvariant := by
  have hstd : Config.params.Standard := by
    unfold Config.params
    split
    next h => exact h
    next => decide
  obtain ⟨hvalid, hN, hchunk⟩ := hstd
  exact ⟨fun p hp => inv_resetOf hp, inv_resetOf hvalid, hN, hchunk⟩

end Sys2Proof
end

/-! # Proofs of the family other, part 5: whole messages at the receiver -/
section

namespace Sys2Proof
namespace Machine

/-! ### The auto-EQ command byte by byte -/

section
variable {p : Params} {s : State}

/-- R90, R211: the auto-EQ command's first byte starts no frame, so that its bytes are read as the command's. -/
theorem startsFrame_autoeqSeq_head {b : Byte} {cs : List Byte} (hp : p.Valid) (hseq : p.autoeqSeq = some (b :: cs)) :
    startsFrame b = false := by
  obtain ⟨-, -, -, -, -, hlegal, -⟩ := hp
  rw [hseq] at hlegal
  have hstart : (!startsFrame b) = true := hlegal
  rwa [Bool.not_eq_true'] at hstart

/-- R211: the bytes of the command from the `m`-th on, but the last. -/
theorem rxCollect_seq {q : List Byte} {m n : Nat} (hseq : p.autoeqSeq = some q) (hn : m + n < q.length) :
    rxCollect p (.seq m) ((q.drop m).take n) = some (.seq (m + n)) := by
  induction n generalizing m with
  | zero => rfl
  | succ n ih =>
    have hm : m < q.length := by omega
    have hgoto : rxAccept p (.seq m) q[m] = .goto (.seq (m + 1)) :=
      (rxAccept_seq_of_match hseq (List.getElem?_eq_getElem hm)).trans (if_neg (by omega))
    rw [List.drop_eq_getElem_cons hm, List.take_succ_cons, rxCollect_cons_of_goto hgoto, ih (by omega)]
    congr 2
    omega

/-- R202, R211: the command's bytes but the last lead inside it, and the last completes it. -/
theorem rxCollect_autoeqSeq {q : List Byte} (hp : p.Valid) (hseq : p.autoeqSeq = some q) :
    ∃ bs b st, q = bs ++ [b] ∧ rxCollect p .idle bs = some st ∧ rxAccept p st b = .run .autoeqCmd := by
  match q, hseq with
  | [], hseq =>
    obtain ⟨-, -, -, -, -, hlegal, -⟩ := hp
    rw [hseq] at hlegal
    cases hlegal
  | b :: cs, hseq =>
    have hb : ¬startsFrame b = true := by rw [startsFrame_autoeqSeq_head hp hseq]; decide
    have hidle := rxAccept_idle_of_autoeq hb hseq
    obtain rfl | ⟨cs, c, rfl⟩ := List.eq_nil_or_concat' cs
    · exact ⟨[], b, .idle, rfl, rfl, hidle.trans (if_pos rfl)⟩
    · rw [if_neg (by simp)] at hidle
      have hcs : rxCollect p (.seq 1) cs = some (.seq (1 + cs.length)) := by
        have hall := rxCollect_seq (m := 1) (n := cs.length) hseq (by simp; omega)
        simpa using hall
      refine ⟨b :: cs, c, .seq (1 + cs.length), rfl, (rxCollect_cons_of_goto hidle).trans hcs, ?_⟩
      refine (rxAccept_seq_of_match hseq ?_).trans (if_pos ?_)
      · rw [Nat.add_comm, List.getElem?_cons_succ, List.getElem?_concat_length]
      · simp; omega

/-! ### One whole message (R200 to R211) -/

/-- Bytes that lead from `IDLE` inside one message, and the last byte that completes it. -/
def Message (p : Params) (bs : List Byte) (i : Instr) : Prop :=
  ∃ init b st, bs = init ++ [b] ∧ rxCollect p .idle init = some st ∧ rxAccept p st b = .run i

theorem Message.of_frame {si term : Byte} {data : List Word} {i : Instr} (hlegal : frameLegal p si data = true)
    (hi : frameOf p si (bytesOf data) term = some i) : Message p (frameBytes si data term) i :=
  ⟨_, term, _, rfl, rxCollect_frame hlegal, rxAccept_awaitTerm_of_frameOf hi⟩

theorem Message.of_autoeqSeq {q : List Byte} (hp : p.Valid) (hseq : p.autoeqSeq = some q) : Message p q .autoeqCmd :=
  rxCollect_autoeqSeq hp hseq

/-- R85, R88, R90: the encoding of every well-formed link message is one message. -/
theorem message_of_encode {i : Instr} {bs : List Byte} (hp : p.Valid) (hi : i.channel = .link)
    (hwf : i.wellFormed p = true) (henc : encode p i = some bs) : Message p bs i := by
  have ⟨_, _, _, _, hterm, _⟩ := hp
  cases i
  case fragMore si data =>
    cases henc
    exact .of_frame hwf (by rw [frameOf_termMore, wordsOf_bytesOf])
  case fragFinal si data =>
    cases henc
    exact .of_frame hwf (by rw [frameOf_termFinal hterm, wordsOf_bytesOf])
  case autoeqCmd => exact .of_autoeqSeq hp henc
  all_goals cases hi

/-- A byte of a message leads on inside it, or, the last, completes it. -/
theorem Message.getElem {bs : List Byte} {i : Instr} (h : Message p bs i) {r : Nat} (hr : r < bs.length) :
    ∃ st, rxCollect p .idle (bs.take r) = some st ∧
      (r + 1 < bs.length → ∃ st', rxAccept p st bs[r] = .goto st' ∧ rxCollect p .idle (bs.take (r + 1)) = some st') ∧
      (r + 1 = bs.length → rxAccept p st bs[r] = .run i) := by
  obtain ⟨init, b, stLast, rfl, hinit, hlast⟩ := h
  obtain ⟨st, hst⟩ := exists_rxCollect_take hinit r
  have hlen : (init ++ [b]).length = init.length + 1 := List.length_append
  have hle : r ≤ init.length := by omega
  have htake : (init ++ [b]).take r = init.take r := List.take_append_of_le_length hle
  refine ⟨st, htake.symm ▸ hst, fun hlt => ?_, fun heq => ?_⟩
  · have hri : r < init.length := by omega
    obtain ⟨st', hst'⟩ := exists_rxCollect_take hinit (r + 1)
    have hstep := hst'
    rw [List.take_succ_eq_append_getElem hri, rxCollect_append, hst, Option.bind_some, rxCollect_cons,
      Option.bind_eq_some_iff] at hstep
    obtain ⟨st'', hgoto, hnil⟩ := hstep
    cases hnil
    rw [List.getElem_append_left hri, List.take_append_of_le_length hri]
    exact ⟨st', RxOut.goto?_eq_some.1 hgoto, hst'⟩
  · obtain rfl : r = init.length := by omega
    rw [List.take_length] at hst
    cases hinit.symm.trans hst
    rw [List.getElem_concat_length rfl]
    exact hlast

/-- R208, R209, R211: a well-formed message leaves the receiver in `IDLE` wherever its parse stood. -/
theorem exec_message_setRx {i : Instr} (hi : i.channel = .link) (hwf : i.wellFormed s.par = true) (st : RxState) :
    exec i (s.setRx st) = exec i s := by
  cases i
  case fragMore => rw [exec_fragMore_of_legal hwf, exec_fragMore_of_legal (s := s.setRx st) hwf]; rfl
  case fragFinal => rw [exec_fragFinal_of_legal hwf, exec_fragFinal_of_legal (s := s.setRx st) hwf]; rfl
  case autoeqCmd => rfl
  all_goals cases hi

/-- R206, R211: with R38's bounds, what a byte completes is well-formed. -/
theorem rxAccept_run_wellFormed {st : RxState} {b : Byte} {i : Instr} (hok : st.Ok p) (h : rxAccept p st b = .run i) :
    i.wellFormed p = true := by
  obtain ⟨rfl, hsome⟩ | ⟨pc, si, d, rfl, hkind⟩ := rxAccept_eq_run h
  · exact hsome
  · obtain ⟨hpos, hmax, hfit, hd⟩ := hok
    have hmax : pc ≤ 15 := hmax
    have hlegal : frameLegal p si (wordsOf d) = true := by
      rw [frameLegal_iff, wordsOf_length]
      omega
    obtain ⟨-, rfl⟩ | ⟨-, rfl⟩ := hkind <;> exact hlegal

/-- What a message's operation leaves of the link and the parse (R208, R209, R211). -/
theorem exec_message_framing {i : Instr} {t : State} (hi : i.channel = .link) (hwf : i.wellFormed s.par = true)
    (h : exec i s = .next t) : t.devRx = .idle ∧ t.devFault = s.devFault ∧ t.h2d = s.h2d := by
  cases i
  case fragMore => cases (exec_fragMore_of_legal hwf).symm.trans h; exact ⟨rfl, rfl, rfl⟩
  case fragFinal => cases (exec_fragFinal_of_legal hwf).symm.trans h; exact ⟨rfl, rfl, rfl⟩
  case autoeqCmd => cases h; exact ⟨rfl, rfl, rfl⟩
  all_goals cases hi

/-! ### The parse of many messages -/

theorem rxParse_append (st : RxState) (bs cs : List Byte) :
    rxParse p st (bs ++ cs) = (rxParse p st bs).bind (rxParse p · cs) := by
  induction bs generalizing st with
  | nil => rfl
  | cons b bs ih =>
    rw [List.cons_append, rxParse, rxParse]
    cases rxAccept p st b with
    | goto st' => exact ih st'
    | run i => exact ih .idle
    | desync => rfl

theorem rxParse_of_rxCollect {st st' : RxState} {bs : List Byte} (h : rxCollect p st bs = some st') :
    rxParse p st bs = some st' := by
  induction bs generalizing st with
  | nil => exact h
  | cons b bs ih =>
    rw [rxCollect_cons, Option.bind_eq_some_iff] at h
    obtain ⟨st₁, hgoto, h⟩ := h
    rw [rxParse, RxOut.goto?_eq_some.1 hgoto]
    exact ih h

theorem Message.rxParse_eq {bs : List Byte} {i : Instr} (h : Message p bs i) : rxParse p .idle bs = some .idle := by
  obtain ⟨init, b, st, rfl, hinit, hlast⟩ := h
  rw [rxParse_append, rxParse_of_rxCollect hinit, Option.bind_some, rxParse, hlast]
  rfl

theorem rxParse_flatten {ms : List (List Byte)} (h : ∀ m ∈ ms, rxParse p .idle m = some .idle) :
    rxParse p .idle ms.flatten = some .idle := by
  induction ms with
  | nil => rfl
  | cons m ms ih =>
    obtain ⟨hm, hms⟩ := List.forall_mem_cons.1 h
    rw [List.flatten_cons, rxParse_append, hm, Option.bind_some, ih hms]

/-- R180: each fragment of a transfer is one message. -/
theorem message_fragment {ws : List Word} {k : Nat} (hp : p.Valid) (hws : ws.length = p.NF) (hk : k < fragmentCount p) :
    Message p (fragmentBytes p ws k) (fragmentInstr p ws k) := by
  have ⟨_, _, _, _, hterm, _⟩ := hp
  rw [fragmentBytes_eq_frameBytes hp hws hk]
  refine .of_frame (frameLegal_fragmentData hp hws hk) ?_
  rw [frameOf_fragmentTerm hterm, wordsOf_bytesOf, fragmentInstr]

/-- R177, R180: the frames of a transfer parse from `IDLE` to `IDLE`, one by one. -/
theorem rxParse_transferFrames {ws : List Word} (hp : p.Valid) (hws : ws.length = p.NF) {f : List Byte}
    (hf : f ∈ transferFrames p ws) : rxParse p .idle f = some .idle := by
  obtain ⟨k, hk, rfl⟩ := List.mem_map.1 hf
  exact (message_fragment hp hws (List.mem_range.1 hk)).rxParse_eq

/-- R180, R185: whatever the block writes whole parses from `IDLE` to `IDLE`. -/
theorem State.Outgoing.rxParse_eq {ms : List (List Byte)} (h : s.Outgoing ms) (hp : s.par.Valid)
    (hbank : s.bank.length = s.par.N) : rxParse s.par .idle ms.flatten = some .idle := by
  obtain rfl | ⟨seq, hseq, rfl⟩ := h
  · have hws : (devWords s.bank).length = s.par.NF := by rw [devWords_length, hbank, Params.NF]
    exact rxParse_flatten fun f hf => rxParse_transferFrames hp hws hf
  · rw [List.flatten_singleton]
    exact (Message.of_autoeqSeq hp hseq).rxParse_eq

/-- R232: a command whose write does not fail leaves the framing intact. -/
theorem State.FramingIntact.command {i : Instr} {t : State} (hs : s.FramingIntact) (hp : s.par.Valid)
    (hbank : s.bank.length = s.par.N) (hdraw : s.writeDraw = none) (hi : i.channel = .command)
    (h : exec i s = .next t) : t.FramingIntact := by
  obtain ⟨hfault, hparse⟩ := hs
  have hsame := exec_command_sameDevice hi h
  obtain ⟨hq, hf⟩ | ⟨op, ms, hms, rfl⟩ := command_writes hi h
  · exact ⟨hf.trans hfault, by rw [hsame.par, hsame.devRx, hq, hparse]⟩
  · rw [s.transmit_ok op ms (writeFailure_eq_none fun n hn => nomatch hdraw.symm.trans hn)]
    refine ⟨hfault, ?_⟩
    show rxParse s.par s.devRx (s.h2d ++ ms.flatten) = some .idle
    rw [rxParse_append, hparse, Option.bind_some, hms.rxParse_eq hp hbank]

/-- R150, R238: the ticks write nothing to the link. -/
theorem tick_link {i : Instr} {t : State} (hi : i = .tickResponse ∨ i = .tickPoll) (h : exec i s = .next t) :
    t.h2d = s.h2d ∧ t.devFault = s.devFault := by
  obtain rfl | rfl := hi <;> cases h <;> split <;> exact ⟨rfl, rfl⟩

end
end Machine

open Machine

/-- Settles O43: the receiver collects the message's bytes but the last, which completes it. -/
theorem receiverRunsTheEncodedMessage : Obligations.ReceiverRunsTheEncodedMessage := by
  intro s i bs rest es hp hwf hi henc hfault hidle hq hin
  obtain ⟨init, b, st, rfl, hinit, hlast⟩ := message_of_encode hp hi hwf henc
  have hrec : s.Receives (init ++ [b]) rest es := ⟨hfault, hq, hin⟩
  have hrun := run_of_rxCollect hrec.left (hidle.symm ▸ hinit)
  have hone := run_one_of_receives (hrec.right st) hlast
  rw [State.received_setRx_received] at hone
  have hsum : core.run (init ++ [b]).length s = core.run (init.length + 1) s := by rw [List.length_append]; rfl
  refine (hsum.trans (run_add hrun 1)).trans (hone.trans ?_)
  exact exec_message_setRx (s := s.received (init ++ [b]) rest es) hi hwf st

/-- Settles O46: a byte keeps what is left in flight complete, and a write that does not fail appends whole messages. -/
theorem framingIsNeverLostWithoutFailure : Obligations.FramingIsNeverLostWithoutFailure := by
  intro s t hinv hs hblock hdevice hdraw h
  have ⟨hfault, hparse⟩ := hs
  cases step_cases h with
  | command bytes draw i rest hev hdec h =>
    have hi := decodeCommand_channel hdec
    obtain ⟨hp, hb, -⟩ := State.inv_iff.1 (hinv.issued rest draw)
    exact State.FramingIntact.command ⟨by simpa using hfault, by simpa using hparse⟩ hp hb.bankLength
      (by simpa using hdraw bytes draw hev) hi h
  | tick i hev h =>
    have hsame := exec_command_sameDevice (tick_channel hev) h
    obtain ⟨hq, hf⟩ := tick_link (hev.imp And.right And.right) h
    exact ⟨hf.trans hfault, by rw [hsame.par, hsame.devRx, hq]; exact hparse⟩
  | rxMoves b rest st _ _ hq ho ht =>
    rw [hq, rxParse, ho] at hparse
    exact ht ▸ ⟨hfault, hparse⟩
  | rxRuns b rest i _ _ hq ho h =>
    rw [hq, rxParse, ho] at hparse
    have hi := rxAccept_eq_run_channel ho
    obtain ⟨hidle, hf, hrest⟩ := exec_message_framing (s := { s.popEvent with h2d := rest }) hi
      (rxAccept_run_wellFormed hinv.rxOk ho) h
    exact ⟨hf.trans hfault, by rw [exec_par h, hidle, hrest]; exact hparse⟩
  | rxDesyncs b rest _ _ hq ho => rw [hq, rxParse, ho] at hparse; cases hparse
  | sample x _ h => rw [exec_sample_frame h]; exact ⟨hfault, hparse⟩
  | blockReset hev => exact absurd hev hblock
  | deviceReset hev => exact absurd hev hdevice
  | reserved _ _ _ ht | rxWaits _ _ ht | telemetry _ _ ht =>
    subst ht
    exact ⟨by simpa using hfault, by simpa using hparse⟩

end Sys2Proof
end

/-! # Proofs of the family other, part 6: a transfer byte by byte -/
section

namespace Sys2Proof
namespace Machine

/-! ### A byte's place among messages -/

section
variable {α : Type} {ms : List (List α)}

/-- Every index into messages back to back lies inside one of them. -/
theorem exists_message_of_lt_flatten {k : Nat} (hk : k < ms.flatten.length) :
    ∃ m, ∃ hm : m < ms.length, ∃ r < ms[m].length, k = (ms.take m).flatten.length + r := by
  induction ms generalizing k with
  | nil => exact absurd hk k.not_lt_zero
  | cons l ms ih =>
    obtain hlt | hge := lt_or_ge k l.length
    · exact ⟨0, Nat.succ_pos _, k, hlt, (Nat.zero_add k).symm⟩
    · rw [List.flatten_cons, List.length_append] at hk
      obtain ⟨m, hm, r, hr, hmr⟩ := ih (k := k - l.length) (by omega)
      refine ⟨m + 1, Nat.succ_lt_succ hm, r, hr, ?_⟩
      rw [List.take_succ_cons, List.flatten_cons, List.length_append]
      omega

theorem length_flatten_take_mono (ms : List (List α)) {m n : Nat} (h : m ≤ n) :
    (ms.take m).flatten.length ≤ (ms.take n).flatten.length :=
  (List.take_prefix_take_left h).flatten.length_le

end

/-! ### The receiver inside fragment `m` of a transfer -/

/-- What `State.MidTransfer` is at byte `r` of fragment `m`. -/
structure State.InFragment (s : State) (ws : List Word) (m r : Nat) (later : List Byte) : Prop where
  noFault : s.devFault = []
  fragment : m < fragmentCount s.par
  offset : r < (fragmentBytes s.par ws m).length
  inFlight : s.h2d = (fragmentBytes s.par ws m).drop r ++ (transferFrom s.par ws (m + 1) ++ later)
  parse : rxCollect s.par .idle ((fragmentBytes s.par ws m).take r) = some s.devRx
  buffered : s.Buffered ws m

/-- The bytes of the fragments before fragment `m`. -/
def transferBefore (p : Params) (ws : List Word) (m : Nat) : List Byte := ((transferFrames p ws).take m).flatten

section
variable {p : Params} {ws : List Word} {m : Nat}

@[simp] theorem transferFrames_length (p : Params) (ws : List Word) :
    (transferFrames p ws).length = fragmentCount p := by
  simp [transferFrames]

theorem transferFrames_getElem (hm : m < (transferFrames p ws).length) :
    (transferFrames p ws)[m] = fragmentBytes p ws m := by simp [transferFrames]

/-- A transfer, split at fragment `m`. -/
theorem transferFrames_flatten (hm : m < fragmentCount p) : (transferFrames p ws).flatten =
    transferBefore p ws m ++ (fragmentBytes p ws m ++ transferFrom p ws (m + 1)) := by
  rw [← transferFrom_of_lt hm, transferBefore, transferFrom, ← List.flatten_append, List.take_append_drop]

theorem take_transferFrames_flatten {r : Nat} (hm : m < fragmentCount p) (hr : r < (fragmentBytes p ws m).length) :
    (transferFrames p ws).flatten.take ((transferBefore p ws m).length + r) =
      transferBefore p ws m ++ (fragmentBytes p ws m).take r := by
  rw [transferFrames_flatten hm, List.take_length_add_append, List.take_append_of_le_length hr.le]

theorem drop_transferFrames_flatten {r : Nat} (hm : m < fragmentCount p) (hr : r < (fragmentBytes p ws m).length) :
    (transferFrames p ws).flatten.drop ((transferBefore p ws m).length + r) =
      (fragmentBytes p ws m).drop r ++ transferFrom p ws (m + 1) := by
  rw [transferFrames_flatten hm, List.drop_length_add_append, List.drop_append_of_le_length hr.le]

theorem transferBefore_succ (hm : m < fragmentCount p) :
    transferBefore p ws (m + 1) = transferBefore p ws m ++ fragmentBytes p ws m := by
  have hlen : m < (transferFrames p ws).length := by rwa [transferFrames_length]
  rw [transferBefore, List.take_succ_eq_append_getElem hlen, List.flatten_append, List.flatten_singleton,
    transferFrames_getElem, transferBefore]

theorem rxParse_transferBefore (hp : p.Valid) (hws : ws.length = p.NF) (m : Nat) :
    rxParse p .idle (transferBefore p ws m) = some .idle :=
  rxParse_flatten fun _ hf => rxParse_transferFrames hp hws (List.mem_of_mem_take hf)

/-- A fragment ends at or before byte `k` inside fragment `m` exactly where it is an earlier one. -/
theorem transferBefore_succ_length_le_iff {n r : Nat} (hm : m < fragmentCount p)
    (hr : r < (fragmentBytes p ws m).length) :
    (transferBefore p ws (n + 1)).length ≤ (transferBefore p ws m).length + r ↔ n < m := by
  constructor
  · intro hle
    by_contra hge
    have hmono : (transferBefore p ws (m + 1)).length ≤ (transferBefore p ws (n + 1)).length :=
      length_flatten_take_mono _ (by omega)
    rw [transferBefore_succ hm, List.length_append] at hmono
    omega
  · intro hlt
    have hmono : (transferBefore p ws (n + 1)).length ≤ (transferBefore p ws m).length :=
      length_flatten_take_mono _ hlt
    omega

end

section
variable {s t : State} {ws : List Word} {m r k : Nat} {later : List Byte}

/-- R207: what is buffered, fragment by fragment, is buffered word by word. -/
theorem State.buffered_iff (hc : 1 ≤ s.par.chunk) (hshadow : s.devShadow.length = s.par.NF)
    (hwmask : s.devWmask.length = s.par.NF) :
    s.Buffered ws m ↔ ∀ n j, n < m → fragmentStart s.par n ≤ j → j < fragmentStart s.par n + fragmentLength s.par n →
      s.devShadow[j]? = ws[j]? ∧ s.devWmask[j]? = some true := by
  constructor
  · rintro ⟨-, -, hwords⟩ n j hn hlo hhi
    refine hwords j ((mem_fragment_iff hc).1 ⟨hlo, hhi⟩).1 (hhi.trans_le ?_)
    calc fragmentStart s.par n + fragmentLength s.par n
      _ ≤ fragmentStart s.par (n + 1) := by rw [fragmentStart_succ, fragmentLength]; omega
      _ ≤ fragmentStart s.par m := Nat.mul_le_mul_right _ hn
  · intro h
    refine ⟨hshadow, hwmask, fun j hj hjm => ?_⟩
    obtain ⟨hlo, hhi⟩ := (mem_fragment_iff hc).2 ⟨hj, rfl⟩
    exact h _ j (Nat.div_lt_of_lt_mul (by rwa [Nat.mul_comm])) hlo hhi

/-- Every byte of a transfer is a byte of one of its fragments. -/
theorem exists_fragment_of_lt {p : Params} (hk : k < (transferFrames p ws).flatten.length) :
    ∃ m r, m < fragmentCount p ∧ r < (fragmentBytes p ws m).length ∧ k = (transferBefore p ws m).length + r := by
  obtain ⟨m, hm, r, hr, hkr⟩ := exists_message_of_lt_flatten hk
  rw [transferFrames_getElem] at hr
  rw [transferFrames_length] at hm
  exact ⟨m, r, hm, hr, hkr⟩

/-- Inside a transfer is inside one of its fragments, the ones before it buffered. -/
theorem State.midTransfer_iff (hp : s.par.Valid) (hws : ws.length = s.par.NF) (hshadow : s.devShadow.length = s.par.NF)
    (hwmask : s.devWmask.length = s.par.NF) :
    s.MidTransfer ws k later ↔
      ∃ m r, k = (transferBefore s.par ws m).length + r ∧ s.InFragment ws m r later := by
  have ⟨_, _, hc, _⟩ := hp
  constructor
  · rintro ⟨hfault, hk, hq, hparse, hbuf⟩
    obtain ⟨m, r, hm, hr, rfl⟩ := exists_fragment_of_lt hk
    rw [drop_transferFrames_flatten hm hr, List.append_assoc] at hq
    rw [take_transferFrames_flatten hm hr, rxParse_append, rxParse_transferBefore hp hws, Option.bind_some] at hparse
    obtain ⟨st, hst, -⟩ := (message_fragment hp hws hm).getElem hr
    refine ⟨m, r, rfl, hfault, hm, hr, hq, ?_, (State.buffered_iff hc hshadow hwmask).2 fun n j hn => ?_⟩
    · rw [hst, ← hparse, rxParse_of_rxCollect hst]
    · exact hbuf n j ((transferBefore_succ_length_le_iff hm hr).2 hn)
  · rintro ⟨m, r, rfl, hfault, hm, hr, hq, hparse, hbuf⟩
    refine ⟨hfault, ?_, ?_, ?_, fun n j hn => ?_⟩
    · rw [transferFrames_flatten hm, List.length_append, List.length_append]
      omega
    · rw [drop_transferFrames_flatten hm hr, List.append_assoc, hq]
    · rw [take_transferFrames_flatten hm hr, rxParse_append, rxParse_transferBefore hp hws, Option.bind_some,
        rxParse_of_rxCollect hparse]
    · exact (State.buffered_iff hc hshadow hwmask).1 hbuf n j ((transferBefore_succ_length_le_iff hm hr).1 hn)

end

/-! ### The length of a transfer -/

theorem fragmentBytes_length {p : Params} {ws : List Word} {k : Nat} (hp : p.Valid) (hws : ws.length = p.NF)
    (hk : k < fragmentCount p) : (fragmentBytes p ws k).length = 4 * fragmentLength p k + 3 := by
  simp [fragmentBytes, fragmentData_length hp hws hk]

/-- R177: the first `n` fragments hold the words up to the start of fragment `n`, four bytes each, and three bytes of
frame each. -/
theorem transferBefore_length {p : Params} {ws : List Word} {n : Nat} (hp : p.Valid) (hws : ws.length = p.NF)
    (hn : n ≤ fragmentCount p) : (transferBefore p ws n).length = 4 * min (fragmentStart p n) p.NF + 3 * n := by
  have ⟨_, _, hc, _⟩ := hp
  induction n with
  | zero => simp [transferBefore, fragmentStart]
  | succ n ih =>
    have hstart := (lt_fragmentCount_iff hc).1 hn
    rw [transferBefore_succ hn, List.length_append, ih (Nat.le_of_succ_le hn), fragmentBytes_length hp hws hn,
      fragmentStart_succ, fragmentLength]
    omega

section
variable {s t : State} {ws : List Word} {m r k : Nat} {later : List Byte}

/-! ### One byte of the transfer -/

/-- R200: DEV_RX takes one byte, whether its step was placed or is the environment's. -/
theorem step_of_devRx {b : Byte} {rest : List Byte} (hev : s.nextEvent = .devRx) (hfault : s.devFault = [])
    (hq : s.h2d = b :: rest) :
    step s = rxFinish (rxAccept s.par s.devRx b) { s.popEvent with h2d := rest } := by
  simp [step_of_nextEvent hev, deliver, devRxStep, hfault, hq]

theorem fragmentBytes_length_pos (p : Params) (ws : List Word) (m : Nat) : 0 < (fragmentBytes p ws m).length := by
  simp [fragmentBytes]

/-- R201 to R206: the byte that comes next moves the receiver on in its fragment, or is the fragment's last and
completes it. -/
theorem State.InFragment.byte (h : s.InFragment ws m r later) (hp : s.par.Valid) (hws : ws.length = s.par.NF)
    (hev : s.nextEvent = .devRx) :
    (r + 1 < (fragmentBytes s.par ws m).length → ∃ st,
      rxCollect s.par .idle ((fragmentBytes s.par ws m).take (r + 1)) = some st ∧
      step s = .next (State.setRx { s.popEvent with
        h2d := (fragmentBytes s.par ws m).drop (r + 1) ++ (transferFrom s.par ws (m + 1) ++ later) } st)) ∧
    (r + 1 = (fragmentBytes s.par ws m).length → step s =
      exec (fragmentInstr s.par ws m) { s.popEvent with h2d := transferFrom s.par ws (m + 1) ++ later }) := by
  obtain ⟨hfault, hm, hr, hq, hparse, -⟩ := h
  rw [List.drop_eq_getElem_cons hr, List.cons_append] at hq
  obtain ⟨st, hst, hmore, hlast⟩ := (message_fragment hp hws hm).getElem hr
  cases hparse.symm.trans hst
  have hstep := step_of_devRx hev hfault hq
  refine ⟨fun hlt => ?_, fun heq => ?_⟩
  · obtain ⟨st', hgoto, htake⟩ := hmore hlt
    exact ⟨st', htake, by rw [hstep, hgoto, rxFinish]⟩
  · rw [hstep, hlast heq, rxFinish, List.drop_of_length_le heq.ge, List.nil_append]

/-- R208: inside a fragment, or at the end of one that is not the last, the active bank stays. -/
theorem State.InFragment.step_unfinished (h : s.InFragment ws m r later) (hp : s.par.Valid) (hws : ws.length = s.par.NF)
    (hev : s.nextEvent = .devRx) (hstep : step s = .next t)
    (hmore : r + 1 < (fragmentBytes s.par ws m).length ∨ m + 1 < fragmentCount s.par) :
    (∃ m' r', (transferBefore s.par ws m').length + r' = (transferBefore s.par ws m).length + r + 1 ∧
      t.InFragment ws m' r' later) ∧
    t.devActive = s.devActive ∧ t.devMode = s.devMode ∧ t.devDly = s.devDly := by
  obtain ⟨hinside, hend⟩ := h.byte hp hws hev
  have ⟨hfault, hm, hr, _, _, hbuf⟩ := h
  obtain hlt | hge := lt_or_ge (r + 1) (fragmentBytes s.par ws m).length
  · obtain ⟨st, htake, hnext⟩ := hinside hlt
    cases hnext.symm.trans hstep
    refine ⟨⟨m, r + 1, rfl, hfault, hm, hlt, rfl, htake, ?_⟩, rfl, rfl, rfl⟩
    exact ⟨hbuf.shadowLength, hbuf.wmaskLength, hbuf.words⟩
  · have hlast : r + 1 = (fragmentBytes s.par ws m).length := by omega
    have hm' : m + 1 < fragmentCount s.par := hmore.resolve_left hge.not_gt
    have hnext := hend hlast
    rw [fragmentInstr, if_neg hm'.ne] at hnext
    have hlegal := frameLegal_fragmentData hp hws hm
    cases (hnext.trans (exec_fragMore_of_legal hlegal)).symm.trans hstep
    obtain ⟨hshadow, hwmask, hwords⟩ := hbuf.bufferFrame hp hws hm
    refine ⟨⟨m + 1, 0, ?_, hfault, hm', fragmentBytes_length_pos _ _ _, ?_, rfl, ⟨hshadow, hwmask, hwords⟩⟩,
      rfl, rfl, rfl⟩
    · rw [transferBefore_succ hm, List.length_append]
      omega
    · rw [List.drop_zero, ← List.append_assoc]
      exact congrArg (· ++ later) (transferFrom_of_lt hm' ws)

/-- R209, R212: the last byte of the last fragment makes the whole of the words sent active. -/
theorem State.InFragment.step_last (h : s.InFragment ws m r later) (hp : s.par.Valid) (hws : ws.length = s.par.NF)
    (hev : s.nextEvent = .devRx) (hstep : step s = .next t) (hr : r + 1 = (fragmentBytes s.par ws m).length)
    (hm : m + 1 = fragmentCount s.par) :
    t.devActive = ws ∧ t.devWmask = List.replicate s.par.NF false ∧ t.devRx = .idle ∧ t.devFault = [] ∧
      t.h2d = later := by
  have hnext := (h.byte hp hws hev).2 hr
  rw [fragmentInstr, if_pos hm, hm, transferFrom_fragmentCount] at hnext
  have hlegal := frameLegal_fragmentData hp hws h.fragment
  cases (hnext.trans (exec_fragFinal_of_legal hlegal)).symm.trans hstep
  obtain ⟨hshadow, hwmask, hwords⟩ := h.buffered.bufferFrame hp hws h.fragment
  rw [hm] at hwords
  exact ⟨State.Buffered.commit_devActive ⟨hshadow, hwmask, hwords⟩ hp hws, rfl, rfl, h.noFault, rfl⟩

/-! ### The other agents' steps -/

/-- What leaves the device alone, and the bytes in flight in front, leaves it inside the transfer at the same byte. -/
theorem State.MidTransfer.of_same {more : List Byte} (h : s.MidTransfer ws k later) (hpar : t.par = s.par)
    (hrx : t.devRx = s.devRx) (hshadow : t.devShadow = s.devShadow) (hwmask : t.devWmask = s.devWmask)
    (hq : t.h2d = s.h2d ++ more) (hfault : t.devFault = []) : t.MidTransfer ws k (later ++ more) := by
  obtain ⟨-, hk, hin, hparse, hbuf⟩ := h
  refine ⟨hfault, by rwa [hpar], by rw [hq, hin, hpar, List.append_assoc], by rwa [hpar, hrx], ?_⟩
  rwa [hpar, hshadow, hwmask]

theorem State.MidTransfer.of_unsent (h : s.MidTransfer ws k later) (hpar : t.par = s.par) (hrx : t.devRx = s.devRx)
    (hshadow : t.devShadow = s.devShadow) (hwmask : t.devWmask = s.devWmask) (hq : t.h2d = s.h2d)
    (hfault : t.devFault = s.devFault) : t.MidTransfer ws k later := by
  have hsent := h.of_same (more := []) hpar hrx hshadow hwmask (by rw [hq, List.append_nil]) (hfault.trans h.noFault)
  rwa [List.append_nil] at hsent

/-- R286: a command leaves the active bank, and the transfer where it was unless a write of its own was cut. -/
theorem State.MidTransfer.command {i : Instr} (h : s.MidTransfer ws k later) (hi : i.channel = .command)
    (hexec : exec i s = .next t) :
    t.devActive = s.devActive ∧ (t.devFault = [] → ∃ more, t.MidTransfer ws k (later ++ more)) := by
  have hsame := exec_command_sameDevice hi hexec
  obtain ⟨out, hq, -⟩ := command_link hi hexec
  exact ⟨hsame.devActive, fun hfault =>
    ⟨out, h.of_same hsame.par hsame.devRx hsame.devShadow hsame.devWmask hq hfault⟩⟩

end
end Machine

open Machine

/-- Settles O45: a byte of the transfer is a byte of one of its fragments, and a fragment's last byte buffers it, or
commits all of them. -/
theorem noPartialBankIsEverActive : Obligations.NoPartialBankIsEverActive := by
  intro s t ws k later hinv hws hmid hblock hdevice h
  obtain ⟨hp, -, hd⟩ := State.inv_iff.1 hinv
  refine ⟨fun hev => ?_, fun hev => ?_⟩
  · obtain ⟨m, r, rfl, hin⟩ := (State.midTransfer_iff hp hws hd.shadowLength hd.wmaskLength).1 hmid
    have hr := hin.offset
    have htotal := congrArg List.length (transferFrames_flatten (ws := ws) hin.fragment)
    rw [List.length_append, List.length_append] at htotal
    refine ⟨fun hlt => ?_, fun heq => ?_⟩
    · have hmore : r + 1 < (fragmentBytes s.par ws m).length ∨ m + 1 < fragmentCount s.par := by
        by_contra hnone
        have hm : m + 1 = fragmentCount s.par := by have := hin.fragment; omega
        rw [hm, transferFrom_fragmentCount, List.length_nil] at htotal
        omega
      obtain ⟨⟨m', r', hk, hin'⟩, hkept⟩ := hin.step_unfinished hp hws hev h hmore
      have hpar := parametersNeverChange s t h
      refine ⟨(State.midTransfer_iff (hpar ▸ hp) (hpar ▸ hws) hin'.buffered.shadowLength hin'.buffered.wmaskLength).2
        ⟨m', r', ?_, hin'⟩, hkept⟩
      rw [hpar, hk]
    · have hm : m + 1 = fragmentCount s.par := by
        by_contra hne
        have hm' : m + 1 < fragmentCount s.par := by have := hin.fragment; omega
        rw [transferFrom_of_lt hm', List.length_append] at htotal
        have hpos := fragmentBytes_length_pos s.par ws (m + 1)
        omega
      rw [hm, transferFrom_fragmentCount, List.length_nil] at htotal
      exact hin.step_last hp hws hev h (by omega) hm
  · cases step_cases h with
    | command _ draw i rest _ hdec h =>
      have hissued : (State.pushBack { s.popEvent with writeDraw := draw } rest draw).MidTransfer ws k later :=
        hmid.of_unsent (by simp) (by simp) (by simp) (by simp) (by simp) (by simp)
      obtain ⟨hactive, hkept⟩ := hissued.command (decodeCommand_channel hdec) h
      exact ⟨by simpa using hactive, hkept⟩
    | tick i he h =>
      have htaken : s.popEvent.MidTransfer ws k later := hmid.of_unsent rfl rfl rfl rfl rfl rfl
      exact htaken.command (tick_channel he) h
    | sample x _ h =>
      rw [exec_sample_frame h]
      refine ⟨rfl, fun _ => ⟨[], ?_⟩⟩
      rw [List.append_nil]
      exact hmid.of_unsent rfl rfl rfl rfl rfl rfl
    | blockReset he => exact absurd he hblock
    | deviceReset he => exact absurd he hdevice
    | rxWaits he | rxMoves _ _ _ he | rxRuns _ _ _ he | rxDesyncs _ _ he => exact absurd he hev
    | reserved _ _ _ ht | telemetry _ _ ht =>
      subst ht
      refine ⟨by simp, fun _ => ⟨[], ?_⟩⟩
      rw [List.append_nil]
      exact hmid.of_unsent (by simp) (by simp) (by simp) (by simp) (by simp) (by simp)

/-- Settles O22: the transfer is its first `F` fragments, whose starts have passed the bank's end. -/
theorem transferLengthFormula : Obligations.TransferLengthFormula := by
  intro p ws hp hws
  have ⟨_, _, hc, _⟩ := hp
  have hend : p.NF ≤ fragmentStart p (fragmentCount p) :=
    not_lt.1 fun h => lt_irrefl _ ((lt_fragmentCount_iff hc).2 h)
  have hall : transferBefore p ws (fragmentCount p) = (transferFrames p ws).flatten := by
    rw [transferBefore, List.take_of_length_le (transferFrames_length p ws).le]
  rw [← hall, transferBefore_length hp hws le_rfl, min_eq_right hend]
  rfl

end Sys2Proof
end

/-! # Proofs of the family other, part 7: decoding and encoding, and the step of a placed transaction -/
section

namespace Sys2Proof

/-! ### Operands read back -/

/-- A word is read back from its bytes on the command port (R63, log entry 2). -/
theorem takeWords_flatMap_be32 (ws : List Word) (rest : List Byte) :
    takeWords ws.length (ws.flatMap be32 ++ rest) = some (ws, rest) := by
  induction ws with
  | nil => rfl
  | cons w ws ih =>
    rw [List.flatMap_cons, List.append_assoc]
    simp only [be32, List.length_cons, List.cons_append, List.nil_append, takeWords, ih, unle32_bytes]

theorem decodeBiquad_words (mk : Biquad → Instr) (sec : Biquad) (rest : List Byte) :
    decodeBiquad mk (sec.words.flatMap be32 ++ rest) = .ok (mk sec) rest := by
  have hwords : takeWords 5 (sec.words.flatMap be32 ++ rest) = some (sec.words, rest) :=
    takeWords_flatMap_be32 sec.words rest
  rw [decodeBiquad, hwords]
  rfl

theorem decodeSetSection_words {ws : List Word} (idx : Byte) (h : ws.length < 256) (rest : List Byte) :
    decodeSetSection (idx :: BitVec.ofNat 8 ws.length :: (ws.flatMap be32 ++ rest)) =
      .ok (.setSection idx ws) rest := by
  have hcount : (BitVec.ofNat 8 ws.length).toNat = ws.length := Nat.mod_eq_of_lt h
  rw [decodeSetSection, hcount, takeWords_flatMap_be32]

theorem decodeLinkOpen_port {port : Port} (h : port.length < 256) (rest : List Byte) :
    decodeLinkOpen (BitVec.ofNat 8 port.length :: (port ++ rest)) = .ok (.linkOpen port) rest := by
  have hlen : (BitVec.ofNat 8 port.length).toNat = port.length := Nat.mod_eq_of_lt h
  simp [decodeLinkOpen, hlen]

/-- R90: the auto-EQ command is read back, its first byte starting no frame. -/
theorem decodeLink_autoeqSeq {p : Params} {bs : List Byte} (hp : p.Valid) (hseq : p.autoeqSeq = some bs)
    (rest : List Byte) : decodeLink p (bs ++ rest) = .ok .autoeqCmd rest := by
  match bs, hseq with
  | [], hseq =>
    obtain ⟨-, -, -, -, -, hlegal, -⟩ := hp
    rw [hseq] at hlegal
    cases hlegal
  | b :: cs, hseq =>
    have hb := Machine.startsFrame_autoeqSeq_head hp hseq
    have hread : (b :: cs).isPrefixOf (b :: (cs ++ rest)) = true :=
      List.isPrefixOf_iff_prefix.2 (List.prefix_append (b :: cs) rest)
    simp [decodeLink, hb, hseq, decodeAutoeq, hread]

/-- Settles O55, one operation at a time. -/
theorem decodeOfEncodeIsIdentity : Obligations.DecodeOfEncodeIsIdentity := by
  intro p i bs rest hp hwf henc
  have ⟨_, _, _, _, hterm, _⟩ := hp
  cases i
  case sample => cases henc
  case autoeqCmd => exact decodeLink_autoeqSeq hp henc rest
  all_goals cases henc
  case fragMore si data =>
    exact decodeLink_frameBytes hwf (by rw [frameOf_termMore, wordsOf_bytesOf]) rest
  case fragFinal si data =>
    exact decodeLink_frameBytes hwf (by rw [frameOf_termFinal hterm, wordsOf_bytesOf]) rest
  case setSection idx ws => exact decodeSetSection_words idx (of_decide_eq_true hwf) rest
  case toDevice sec => exact decodeBiquad_words .toDevice sec rest
  case toPreview sec => exact decodeBiquad_words .toPreview sec rest
  case linkOpen port => exact decodeLinkOpen_port (of_decide_eq_true hwf) rest
  all_goals rfl

/-! ### Reserved opcodes -/

theorem decodeBiquad_ne_reserved (mk : Biquad → Instr) (bs : List Byte) (op : Byte) :
    decodeBiquad mk bs ≠ .reject (.reservedOpcode op) := by
  unfold decodeBiquad; split <;> nofun

theorem decodeGetSection_ne_reserved (bs : List Byte) (op : Byte) :
    decodeGetSection bs ≠ .reject (.reservedOpcode op) := by
  unfold decodeGetSection; split <;> nofun

theorem decodeSetSection_ne_reserved (bs : List Byte) (op : Byte) :
    decodeSetSection bs ≠ .reject (.reservedOpcode op) := by
  unfold decodeSetSection
  split
  · split <;> nofun
  · nofun

theorem decodeLinkOpen_ne_reserved (bs : List Byte) (op : Byte) :
    decodeLinkOpen bs ≠ .reject (.reservedOpcode op) := by
  unfold decodeLinkOpen
  split
  · split <;> nofun
  · nofun

/-- R84: the opcodes of no row of R82's table, and they alone, are rejected as reserved. -/
theorem decodeCommand_eq_reserved_iff (op : Byte) (bs : List Byte) :
    decodeCommand (op :: bs) = .reject (.reservedOpcode op) ↔
      op.toNat ∉ [0x01, 0x02, 0x03, 0x04, 0x05, 0x10, 0x11, 0x20, 0x21, 0x22, 0x30, 0x31] := by
  unfold decodeCommand
  dsimp only
  split
  case h_1 hop | h_6 hop | h_7 hop | h_9 hop | h_10 hop | h_11 hop | h_12 hop => exact iff_of_false nofun (by simp [hop])
  case h_2 hop => exact iff_of_false (decodeGetSection_ne_reserved bs op) (by simp [hop])
  case h_3 hop => exact iff_of_false (decodeSetSection_ne_reserved bs op) (by simp [hop])
  case h_4 hop => exact iff_of_false (decodeBiquad_ne_reserved _ bs op) (by simp [hop])
  case h_5 hop => exact iff_of_false (decodeBiquad_ne_reserved _ bs op) (by simp [hop])
  case h_8 hop => exact iff_of_false (decodeLinkOpen_ne_reserved bs op) (by simp [hop])
  case h_13 => exact iff_of_true rfl (by simp_all)

/-! ### The step of a placed event -/

namespace Machine

section
variable {s : State} {es : List Event}

/-- R34, R261: a placed event is taken and delivered. -/
theorem step_of_inbox {e : Event} (hin : s.inbox = e :: es) :
    step s = deliver e { s with inbox := es, pos := s.pos + 1 } := by
  simp [step, State.nextEvent, State.popEvent, hin]

theorem hostCommand_of_ok {bytes rest : List Byte} {i : Instr} (draw : Option Nat)
    (hdec : decodeCommand bytes = .ok i rest) :
    hostCommand bytes draw s = exec i (State.pushBack { s with writeDraw := draw } rest draw) := by
  rw [hostCommand, hdec]

theorem hostCommand_of_reserved {bytes : List Byte} {op : Byte} (draw : Option Nat)
    (hdec : decodeCommand bytes = .reject (.reservedOpcode op)) :
    hostCommand bytes draw s = .next (s.refuse .reservedOpcode) := by
  rw [hostCommand, hdec]

end
end Machine

open Machine

/-- Settles O56: the decoder's rejection is the step's refusal. -/
theorem reservedOpcodesAreRefused : Obligations.ReservedOpcodesAreRefused := by
  refine ⟨decodeCommand_eq_reserved_iff, fun s op bs draw es hin hop => ?_⟩
  exact (step_of_inbox hin).trans (hostCommand_of_reserved draw ((decodeCommand_eq_reserved_iff op bs).2 hop))

/-- Settles O49: a placed event is delivered to its agent, and a tick reschedules its timer whichever case it takes. -/
theorem stepRunsTheDecodedOperation : Obligations.StepRunsTheDecodedOperation := by
  refine ⟨fun s es => ⟨fun bytes draw i hin hdec => ?_, fun bytes draw i b rest hin hdec => ?_, fun hin => ?_,
    fun hin => ?_, fun x hin => ?_⟩, fun s t h => ?_, fun s t h => ?_⟩
  · exact (step_of_inbox hin).trans (hostCommand_of_ok draw hdec)
  · exact (step_of_inbox hin).trans (hostCommand_of_ok draw hdec)
  · exact step_of_inbox hin
  · exact step_of_inbox hin
  · exact step_of_inbox hin
  · cases h; split <;> rfl
  · cases h; split <;> rfl

/-- Settles O57, by evaluating the decoders and the encoder. -/
theorem wordsOfTheSpecDecode : Obligations.WordsOfTheSpecDecode := by
  refine ⟨?_, ?_, ?_, ?_, ?_, ?_, ?_, ?_, ?_⟩ <;> decide

end Sys2Proof
end

/-! # Proofs of the family other, part 8: the resets' tables, and single cases of the device and the preview -/
section

namespace Sys2Proof

open Machine

/-- Settles O39: both conditions leave DEV_RX without a byte to take. -/
theorem receiverWaitsOrIsStuck : Obligations.ReceiverWaitsOrIsStuck := by
  intro s es hin hstuck
  rw [step_of_inbox hin, deliver, devRxStep]
  obtain hq | hfault := hstuck
  · split
    · rfl
    · simp only [hq]
  · exact if_pos (List.contains_iff_mem.2 hfault)

/-- Settles O34: the operation is one update of the mode and of the parse state. -/
theorem autoeqCommandEntersTheMode : Obligations.AutoeqCommandEntersTheMode := fun _ => rfl

/-! ### Resets -/

namespace Machine

/-- R35, R281: with `DEV_RESET_BANK` given, its words are the active bank. -/
theorem activeAtReset_of_given {p : Params} {l : List Word} (hl : p.devResetBank = some l) (hlen : l.length = p.NF)
    (base : Nat) : activeAtReset p base = l := by
  rw [activeAtReset, hl, ← hlen]
  refine List.ext_getElem (by simp) fun j h₁ h₂ => ?_
  simp [h₂]

end Machine

/-- Settles O2: every row is a field that `resetOf` writes. -/
theorem deviceResetTable : Obligations.DeviceResetTable := by
  intro p
  refine ⟨fun l hl hlen => activeAtReset_of_given hl hlen 0, activeAtReset_length p 0, freeWords_length _ _,
    fun j hj => ?_, rfl, rfl, fun i hi => ?_, rfl⟩
  · exact List.getElem?_replicate_of_lt hj
  · exact List.getElem?_replicate_of_lt hi

/-- Settles O3: each reset writes its own side's fields. -/
theorem resetsAreIndependent : Obligations.ResetsAreIndependent := by
  refine fun s es => ⟨fun hin => ⟨_, step_of_inbox hin, ?_⟩, fun hin => ⟨_, step_of_inbox hin, ?_⟩⟩
  · exact ⟨rfl, rfl, rfl, rfl, rfl, rfl, rfl, rfl, rfl, rfl, rfl, rfl, rfl, rfl, rfl, rfl, rfl, rfl, rfl⟩
  · exact ⟨rfl, rfl, rfl, rfl, rfl, rfl, rfl, rfl, rfl, rfl, rfl, rfl,
      fun l hl hlen => activeAtReset_of_given hl hlen _, activeAtReset_length _ _, freeWords_length _ _,
      rfl, rfl, rfl, rfl, rfl⟩

/-- Settles O13, by the zeros of the trinomial on the grid (family 42). -/
theorem vanishingTestIsExact : Obligations.VanishingTestIsExact :=
  fun c0 c1 c2 _ _ hkm => vanishesAt_iff_trinomial_eq_zero c0 c1 c2 hkm

end Sys2Proof
end

/-! # Proofs of the family other, part 9: the sample step and the recurrence -/
section

namespace Sys2Proof

/-! ### The real number that exact arithmetic computes -/

section
variable (ρ : Nat → ℝ)

theorem freePart_addFree (i : Nat) (as bs : List ℚ) :
    freePart ρ i (addFree as bs) = freePart ρ i as + freePart ρ i bs := by
  induction as generalizing i bs with
  | nil => simp [addFree, freePart]
  | cons a as ih =>
    cases bs with
    | nil => simp [addFree, freePart]
    | cons b bs =>
      rw [addFree, freePart, freePart, freePart, ih]
      push_cast
      ring

theorem freePart_map_mul (q : ℚ) (i : Nat) (as : List ℚ) :
    freePart ρ i (as.map fun c => q * c) = q * freePart ρ i as := by
  induction as generalizing i with
  | nil => simp [freePart]
  | cons a as ih =>
    rw [List.map_cons, freePart, freePart, ih]
    push_cast
    ring

@[simp] theorem Number.real_add (a b : Number) : (a.add b).real ρ = a.real ρ + b.real ρ := by
  rw [Number.real, Number.real, Number.real, Number.add, freePart_addFree]
  push_cast
  ring

@[simp] theorem Number.real_scale (q : ℚ) (a : Number) : (Number.scale q a).real ρ = q * a.real ρ := by
  rw [Number.real, Number.real, Number.scale, freePart_map_mul]
  push_cast
  ring

@[simp] theorem Number.real_zero : Number.zero.real ρ = 0 := by simp [Number.real, Number.zero, Number.ofRat, freePart]

/-- R214's sum of products, whatever real numbers the signal values are. -/
theorem exactArith_mac_real (b : Biquad) (t : Taps) : (exactArith.mac b t).real ρ =
    val b.b0 * t.u.real ρ + val b.b1 * t.x1.real ρ + val b.b2 * t.x2.real ρ + val b.a1 * t.y1.real ρ +
      val b.a2 * t.y2.real ρ := by
  simp [exactArith]

end

/-- R61: any `5·n` words are the words of `n` sections. -/
theorem exists_flatten_eq {n : Nat} {ws : List Word} (h : ws.length = 5 * n) :
    ∃ bank : List Biquad, bank.length = n ∧ flatten bank = ws := by
  induction n generalizing ws with
  | zero => exact ⟨[], rfl, (List.length_eq_zero_iff.1 h).symm⟩
  | succ n ih =>
    match ws, h with
    | b0 :: b1 :: b2 :: a1 :: a2 :: ws, h =>
      obtain ⟨bank, rfl, rfl⟩ := ih (ws := ws) (by simp at h; omega)
      exact ⟨⟨b0, b1, b2, a1, a2⟩ :: bank, rfl, rfl⟩

namespace Machine

/-! ### SAMPLE, one equation a case -/

theorem exec_sample_of_autoeq {s : State} (h : s.devMode = .autoeq) (x : Number) :
    exec (.sample x) s = .next s.refuseSample := by
  simp only [exec, execSample, h]

theorem exec_sample_of_normal {s : State} (h : s.devMode = .normal) (x : Number) :
    exec (.sample x) s = .next (s.runSample x) := by
  simp only [exec, execSample, h]

/-! ### The signal from section to section -/

/-- R214: the value that enters section `i` of the cascade, `u` the sample's input. -/
def cascadeSignal (A : DevArith) : List Biquad → List Delay → Number → Nat → Number
  | b :: bs, d :: ds, u, i + 1 => cascadeSignal A bs ds (A.mac b ⟨u, d.x1, d.x2, d.y1, d.y2⟩) i
  | _, _, u, _ => u

section
variable {A : DevArith} {bank : List Biquad} {ds : List Delay} {u : Number}

@[simp] theorem cascadeSignal_zero (A : DevArith) (bank : List Biquad) (ds : List Delay) (u : Number) :
    cascadeSignal A bank ds u 0 = u := by
  cases bank <;> cases ds <;> rfl

theorem cascadeStep_flatten_cons (b : Biquad) (d : Delay) :
    cascadeStep A (flatten (b :: bank)) (d :: ds) u =
      (⟨u, d.x1, A.mac b ⟨u, d.x1, d.x2, d.y1, d.y2⟩, d.y1⟩ ::
          (cascadeStep A (flatten bank) ds (A.mac b ⟨u, d.x1, d.x2, d.y1, d.y2⟩)).1,
        (cascadeStep A (flatten bank) ds (A.mac b ⟨u, d.x1, d.x2, d.y1, d.y2⟩)).2) := rfl

/-- R214: the output is the value after the last section. -/
theorem cascadeStep_output (h : ds.length = bank.length) :
    (cascadeStep A (flatten bank) ds u).2 = cascadeSignal A bank ds u bank.length := by
  induction bank generalizing ds u with
  | nil => cases ds <;> rfl
  | cons b bank ih =>
    match ds, h with
    | d :: ds, h => exact ih (Nat.succ.inj h)

/-- R214: what section `i` computes, and the delays it leaves. -/
theorem cascadeStep_section {i : Nat} {b : Biquad} {d : Delay} (hb : bank[i]? = some b) (hd : ds[i]? = some d) :
    cascadeSignal A bank ds u (i + 1) = A.mac b ⟨cascadeSignal A bank ds u i, d.x1, d.x2, d.y1, d.y2⟩ ∧
      (cascadeStep A (flatten bank) ds u).1[i]? =
        some ⟨cascadeSignal A bank ds u i, d.x1, cascadeSignal A bank ds u (i + 1), d.y1⟩ := by
  induction i generalizing bank ds u with
  | zero =>
    match bank, ds, hb, hd with
    | c :: bank, e :: ds, hb, hd =>
      cases hb; cases hd
      rw [cascadeStep_flatten_cons]
      simp [cascadeSignal]
  | succ i ih =>
    match bank, ds, hb, hd with
    | c :: bank, e :: ds, hb, hd => exact ih (bank := bank) (ds := ds) hb hd

end

/-! ### The host recurrence from the delays -/

/-- A sequence's value `k` samples before sample `n`, "every delayed value before `n = 0` zero" (R140). -/
def past (X : Nat → ℝ) (n k : Nat) : ℝ := if k ≤ n then X (n - k) else 0

/-- R140 with the delayed values named. -/
theorem hostSection_eq (b : Biquad) (X : Nat → ℝ) (n : Nat) :
    hostSection b X n = val b.b0 * X n + val b.b1 * past X n 1 + val b.b2 * past X n 2 -
      val b.a1 * past (hostSection b X) n 1 - val b.a2 * past (hostSection b X) n 2 := by
  match n with
  | 0 => simp [hostSection, past]
  | 1 => simp [hostSection, past]
  | n + 2 => simp [hostSection, past]

theorem past_succ_one (X : Nat → ℝ) (n : Nat) : past X (n + 1) 1 = X n := by simp [past]

theorem past_succ_two (X : Nat → ℝ) (n : Nat) : past X (n + 1) 2 = past X n 1 := by simp [past]

/-- The delays before sample `n` are those of the bank's host recurrence on the input `X` (R140, R214). -/
def Tracks (ρ : Nat → ℝ) : List Biquad → List Delay → (Nat → ℝ) → Nat → Prop
  | [], _, _, _ => True
  | _ :: _, [], _, _ => False
  | b :: bs, d :: ds, X, n =>
    (d.x1.real ρ = past X n 1 ∧ d.x2.real ρ = past X n 2 ∧ d.y1.real ρ = past (hostSection b X) n 1 ∧
      d.y2.real ρ = past (hostSection b X) n 2) ∧ Tracks ρ bs ds (hostSection b X) n

section
variable {ρ : Nat → ℝ} {bank : List Biquad}

theorem tracks_replicate_zero (ρ : Nat → ℝ) (bank : List Biquad) (X : Nat → ℝ) :
    Tracks ρ bank (List.replicate bank.length Delay.zero) X 0 := by
  induction bank generalizing X with
  | nil => trivial
  | cons b bank ih =>
    rw [List.length_cons, List.replicate_succ]
    exact ⟨by simp [Delay.zero, past], ih (hostSection b X)⟩

/-- R133, R140, R214: a device section whose delays are the recurrence's computes the host section's next value. -/
theorem exactArith_mac_toDevice_real {b : Biquad} {d : Delay} {u : Number} {X : Nat → ℝ} {n : Nat}
    (hb : b.finite = true) (hu : u.real ρ = X n)
    (hd : d.x1.real ρ = past X n 1 ∧ d.x2.real ρ = past X n 2 ∧ d.y1.real ρ = past (hostSection b X) n 1 ∧
      d.y2.real ρ = past (hostSection b X) n 2) :
    (exactArith.mac b.toDevice ⟨u, d.x1, d.x2, d.y1, d.y2⟩).real ρ = hostSection b X n := by
  have hfin : ∀ w ∈ b.words, wordFinite w = true := List.all_eq_true.1 hb
  have ha1 : val (fneg b.a1) = -val b.a1 := val_fneg (hfin _ (by simp [Biquad.words]))
  have ha2 : val (fneg b.a2) = -val b.a2 := val_fneg (hfin _ (by simp [Biquad.words]))
  obtain ⟨hx1, hx2, hy1, hy2⟩ := hd
  rw [exactArith_mac_real, hostSection_eq]
  simp only [Biquad.toDevice, ha1, ha2, hu, hx1, hx2, hy1, hy2, Rat.cast_neg]
  ring

/-- R214, R216: a sample step gives the host recurrence's next output and leaves its delays. -/
theorem cascadeStep_tracks {ds : List Delay} {u : Number} {X : Nat → ℝ} {n : Nat}
    (hbank : ∀ b ∈ bank, b.finite = true) (hds : Tracks ρ bank ds X n) (hu : u.real ρ = X n) :
    (cascadeStep exactArith (devWords bank) ds u).2.real ρ = hostCascade bank X n ∧
      Tracks ρ bank (cascadeStep exactArith (devWords bank) ds u).1 X (n + 1) := by
  induction bank generalizing ds u X with
  | nil => exact ⟨hu, trivial⟩
  | cons b bank ih =>
    obtain ⟨hb, hbank⟩ := List.forall_mem_cons.1 hbank
    match ds, hds with
    | d :: ds, ⟨hd, hds⟩ =>
      have hy := exactArith_mac_toDevice_real hb hu hd
      obtain ⟨hout, hnext⟩ := ih hbank hds hy
      obtain ⟨hx1, -, hy1, -⟩ := hd
      refine ⟨hout, ⟨?_, ?_, ?_, ?_⟩, hnext⟩
      · rw [past_succ_one, hu]
      · rw [past_succ_two, hx1]
      · rw [past_succ_one, hy]
      · rw [past_succ_two, hy1]

/-! ### Runs of samples -/

/-- The device that filters `X` with the bank in exact arithmetic, before sample `n` (R214, R216). -/
structure State.Filters (s : State) (ρ : Nat → ℝ) (bank : List Biquad) (X : Nat → ℝ) (n : Nat) : Prop where
  active : s.devActive = devWords bank
  mode : s.devMode = .normal
  exact : s.par.devArith = .exact
  delays : Tracks ρ bank s.devDly X n

/-- R214: one placed sample. -/
theorem State.Filters.sample {s : State} {X : Nat → ℝ} {n : Nat} {x : Number} {es : List Event}
    (h : s.Filters ρ bank X n) (hbank : ∀ b ∈ bank, b.finite = true) (hin : s.inbox = .sample x :: es)
    (hx : x.real ρ = X n) :
    ∃ t y, step s = .next t ∧ t.sampleOut = some y ∧ y.real ρ = hostCascade bank X n ∧
      t.Filters ρ bank X (n + 1) ∧ t.inbox = es := by
  obtain ⟨hactive, hmode, hexact, hdelays⟩ := h
  obtain ⟨hout, hnext⟩ := cascadeStep_tracks hbank hdelays hx
  refine ⟨_, _, (step_of_inbox hin).trans
    (exec_sample_of_normal (s := { s with inbox := es, pos := s.pos + 1 }) hmode x), rfl, ?_,
    ⟨hactive, hmode, hexact, ?_⟩, rfl⟩
  · simpa [hexact, hactive, DevSel.arith] using hout
  · simpa [hexact, hactive, DevSel.arith] using hnext

/-- R216: the last output of a run of samples is the host recurrence's, by induction on the samples. -/
theorem State.Filters.run {s : State} {X : Nat → ℝ} {n : Nat} {x : Number} {ys : List Number}
    (h : s.Filters ρ bank X n) (hbank : ∀ b ∈ bank, b.finite = true) (hin : s.inbox = (x :: ys).map .sample)
    (hX : ∀ i ≤ ys.length, ((x :: ys).getD i .zero).real ρ = X (n + i)) :
    ∃ t y, core.run (ys.length + 1) s = .next t ∧ t.sampleOut = some y ∧
      y.real ρ = hostCascade bank X (n + ys.length) := by
  induction ys generalizing s n x with
  | nil =>
    obtain ⟨t, y, hstep, hout, hy, -⟩ := h.sample hbank hin (hX 0 le_rfl)
    exact ⟨t, y, (run_one (M := core) s).trans hstep, hout, hy⟩
  | cons z zs ih =>
    obtain ⟨t, -, hstep, -, -, ht, hrest⟩ := h.sample hbank hin (hX 0 (Nat.zero_le _))
    have hX' : ∀ i ≤ zs.length, ((z :: zs).getD i .zero).real ρ = X (n + 1 + i) := fun i hi => by
      have hnext := hX (i + 1) (Nat.succ_le_succ hi)
      rwa [List.getD_cons_succ, Nat.add_comm i, ← Nat.add_assoc] at hnext
    obtain ⟨v, w, hrun, hv, hw⟩ := ih ht hrest hX'
    have hone : core.run 1 s = .next t := (run_one (M := core) s).trans hstep
    refine ⟨v, w, ?_, hv, ?_⟩
    · rw [List.length_cons, Nat.add_comm]
      exact (run_add hone _).trans hrun
    · rw [hw, List.length_cons, Nat.add_assoc, Nat.add_comm 1]

end
end Machine

open Machine

/-- Settles O35: the cascade's signals, and the delays each section leaves. -/
theorem sampleFollowsTheRecurrence : Obligations.SampleFollowsTheRecurrence := by
  intro s x
  refine ⟨fun hmode => exec_sample_of_autoeq hmode x, fun hmode hactive hdly => ?_⟩
  obtain ⟨bank, hlen, hbank⟩ := exists_flatten_eq hactive
  refine ⟨_, cascadeSignal s.par.devArith.arith bank s.devDly x, exec_sample_of_normal hmode x, ?_,
    cascadeSignal_zero _ _ _ _, ?_, ?_⟩
  · have hout := cascadeStep_output (A := s.par.devArith.arith) (u := x) (hdly.trans hlen.symm)
    rw [hbank, hlen] at hout
    rw [State.runSample, hout]
  · simpa using hdly
  · intro i b0 b1 b2 d1 d2 d h0 h1 h2 h3 h4 hd
    have hi : i < bank.length := by
      obtain ⟨hi, -⟩ := List.getElem?_eq_some_iff.1 hd
      omega
    have hb : bank[i]? = some bank[i] := List.getElem?_eq_getElem hi
    have hword {c : Nat} {v w : Word} (hw : bank[i].words[c]? = some w) (hv : s.devActive[5 * i + c]? = some v) :
        w = v :=
      Option.some.inj ((flatten_getElem? hb hw).symm.trans (hbank ▸ hv))
    obtain rfl := hword (c := 0) rfl h0
    obtain rfl := hword (c := 1) rfl h1
    obtain rfl := hword (c := 2) rfl h2
    obtain rfl := hword (c := 3) rfl h3
    obtain rfl := hword (c := 4) rfl h4
    obtain ⟨hmac, hnext⟩ := cascadeStep_section (A := s.par.devArith.arith) (u := x) hb hd
    rw [hbank] at hnext
    refine ⟨hmac, hnext, fun hexact ρ => ?_⟩
    rw [hmac, hexact]
    exact exactArith_mac_real ρ bank[i] _

/-- Settles O38: zero delays are the recurrence's before the first sample, and each sample keeps them so. -/
theorem samplesAgreeWithThePreviewedBank : Obligations.SamplesAgreeWithThePreviewedBank := by
  intro s bank xs n ρ hbank hactive hdly hmode hexact hn hin
  match xs, hn with
  | x :: xs, hn =>
    rw [List.take_succ_cons] at hin
    have hs : s.Filters ρ bank (fun k => ((x :: xs).getD k .zero).real ρ) 0 :=
      ⟨hactive, hmode, hexact, hdly ▸ tracks_replicate_zero ρ bank _⟩
    have hlen : (xs.take n).length = n := List.length_take_of_le (Nat.le_of_lt_succ hn)
    have hX : ∀ i ≤ (xs.take n).length,
        ((x :: xs.take n).getD i .zero).real ρ = ((x :: xs).getD (0 + i) .zero).real ρ := by
      intro i hi
      rw [← List.take_succ_cons, List.getD_eq_getElem?_getD, List.getElem?_take_of_lt (by omega), Nat.zero_add,
        List.getD_eq_getElem?_getD]
    obtain ⟨t, y, hrun, hout, hy⟩ := hs.run hbank hin hX
    rw [hlen] at hrun hy
    rw [Nat.zero_add] at hy
    exact ⟨t, y, hrun, hout, hy⟩

end Sys2Proof
end

/-! # Proofs of the family other, part 10: pseudo-operations and decimal operands -/
section

namespace Sys2Proof
namespace Machine

/-! ### Rows of an import -/

theorem execAll_singleton (i : Instr) (s : State) : execAll [i] s = exec i s := by
  obtain ⟨t, ht⟩ := exec_answers i s
  simp [execAll, ht]

/-- R6: every index below `N` fits the operand. -/
theorem idxOf_toNat {i : Nat} (h : i ≤ 255) : (idxOf i).toNat = i := by
  rw [idxOf, min_eq_left h]
  exact Nat.mod_eq_of_lt (by omega)

theorem exists_words_eq {r : List Word} (h : r.length = 5) : ∃ b : Biquad, r = b.words := by
  match r, h with
  | [b0, b1, b2, a1, a2], _ => exact ⟨⟨b0, b1, b2, a1, a2⟩, rfl⟩

/-- R94, R95: what an import of `rows` from section `i` on has done: its five-number rows are the sections of their own
index, every other section and `DIAG` are as they were. -/
structure Imports (s t : State) (i : Nat) (rows : List (List Word)) : Prop where
  diag : t.diag = s.diag
  length : t.bank.length = s.bank.length
  written : ∀ j b, rows[j]? = some (Biquad.words b) → t.bank[i + j]? = some b
  others : ∀ j, (∀ r, i ≤ j → rows[j - i]? = some r → r.length ≠ 5) → t.bank[j]? = s.bank[j]?

section
variable {s t u : State} {i : Nat} {r : List Word} {rows : List (List Word)}

theorem Imports.nil (s : State) (i : Nat) : Imports s s i [] := ⟨rfl, rfl, by simp, fun _ _ => rfl⟩

/-- R95: a row that is not five numbers is left out. -/
theorem Imports.skip (h : Imports s t (i + 1) rows) (hr : r.length ≠ 5) : Imports s t i (r :: rows) := by
  refine ⟨h.diag, h.length, fun j b hb => ?_, fun j hj => h.others j fun r' hij hr' => ?_⟩
  · cases j with
    | zero => cases hb; exact absurd rfl hr
    | succ j => rw [← h.written j b hb, Nat.add_right_comm, Nat.add_assoc]
  · refine hj r' (Nat.le_of_succ_le hij) ?_
    rwa [show j - i = j - (i + 1) + 1 by omega, List.getElem?_cons_succ]

/-- R94, R112: a row of five numbers is the section of its index. -/
theorem Imports.write {b : Biquad} (h : Imports ((s.setSectionAt i b).answer .none) t (i + 1) rows)
    (hi : i < s.bank.length) : Imports s t i (b.words :: rows) := by
  refine ⟨h.diag, h.length.trans (List.length_set ..), fun j c hc => ?_, fun j hj => ?_⟩
  · cases j with
    | zero =>
      rw [List.getElem?_cons_zero, Option.some.injEq] at hc
      obtain rfl : b = c := by cases b; cases c; cases hc; rfl
      rw [Nat.add_zero, h.others i fun _ hij => absurd hij (by omega)]
      exact List.getElem?_set_self hi
    | succ j => rw [← h.written j c hc, Nat.add_right_comm, Nat.add_assoc]
  · have hne : i ≠ j := by
      rintro rfl
      exact hj b.words le_rfl (by rw [Nat.sub_self]; rfl) rfl
    rw [h.others j fun r' hij hr' => ?_]
    · exact List.getElem?_set_ne hne
    · refine hj r' (Nat.le_of_succ_le hij) ?_
      rwa [show j - i = j - (i + 1) + 1 by omega, List.getElem?_cons_succ]

/-- R94, R95: the operations of an import complete, row by row. -/
theorem execAll_expandRows (hN : s.par.N ≤ 255) (hbank : s.bank.length = s.par.N) (hi : i + rows.length ≤ s.par.N)
    (hfin : ∀ r ∈ rows, r.length = 5 → ∀ w ∈ r, wordFinite w = true) :
    ∃ t, execAll (expandRows i rows) s = .next t ∧ Imports s t i rows := by
  induction rows generalizing i s with
  | nil => exact ⟨s, rfl, .nil s i⟩
  | cons r rows ih =>
    obtain ⟨hr, hrows⟩ := List.forall_mem_cons.1 hfin
    rw [List.length_cons] at hi
    rw [expandRows]
    split
    next hlen =>
      obtain ⟨b, rfl⟩ := exists_words_eq hlen
      have hidx : (idxOf i).toNat = i := idxOf_toNat (by omega)
      have hb : firstNonFinite b.words = none :=
        (firstNonFinite_eq_none_iff _).2 fun w hw => (wordFinite_iff w).1 (hr hlen w hw)
      have hset := exec_setSection_of_finite (s := s) (idx := idxOf i) (by omega) hb
      rw [hidx] at hset
      obtain ⟨t, hall, ht⟩ := ih (s := (s.setSectionAt i b).answer .none) (i := i + 1) hN
        ((List.length_set ..).trans hbank) (by simp; omega) hrows
      exact ⟨t, execAll_cons_eq_next.2 ⟨_, hset, hall⟩, ht.write (by omega)⟩
    next hlen =>
      obtain ⟨t, hall, ht⟩ := ih (i := i + 1) hN hbank (by omega) hrows
      exact ⟨t, hall, ht.skip hlen⟩

/-- R96: BOOST_BASS is the import of the same row for every section. -/
theorem expandRows_replicate (b : Biquad) (i n : Nat) :
    expandRows i (List.replicate n b.words) = (List.range n).map fun j => .setSection (idxOf (i + j)) b.words := by
  induction n generalizing i with
  | zero => rfl
  | succ n ih =>
    rw [List.replicate_succ, expandRows, if_pos b.words_length, ih, List.range_succ_eq_map, List.map_cons, List.map_map]
    simp only [Function.comp_def, Nat.add_zero, Nat.succ_eq_add_one, Nat.add_right_comm i 1, Nat.add_assoc]

end
end Machine

open Machine

/-- Settles O58: an import of `N` equal rows writes every section. -/
theorem boostBassFillsTheBank : Obligations.BoostBassFillsTheBank := by
  intro s b hinv hb
  have ⟨_, hN, _⟩ := hinv.parValid
  have hexpand : (Pseudo.boostBass b).expand s.par = expandRows 0 (List.replicate s.par.N b.words) := by
    simp [Pseudo.expand, expandRows_replicate]
  obtain ⟨t, hall, ht⟩ := execAll_expandRows (i := 0) (rows := List.replicate s.par.N b.words) (by omega)
    hinv.bankLength (by simp) fun r hr _ => List.eq_of_mem_replicate hr ▸ List.all_eq_true.1 hb
  refine ⟨t, hexpand ▸ hall, ?_, ht.diag⟩
  refine List.eq_replicate_iff.2 ⟨ht.length.trans hinv.bankLength, fun c hc => ?_⟩
  obtain ⟨j, hj, rfl⟩ := List.mem_iff_getElem.1 hc
  have hjN : j < s.par.N := by rw [ht.length, hinv.bankLength] at hj; exact hj
  have hj' := ht.written j b (List.getElem?_replicate_of_lt hjN)
  rw [Nat.zero_add, List.getElem?_eq_getElem hj] at hj'
  exact Option.some.inj hj'

/-- Settles O59: the rows one by one, and the sources that stand for no operation. -/
theorem importsApplyTheirGoodRows : Obligations.ImportsApplyTheirGoodRows := by
  refine ⟨fun s rows hinv hlen hfin => ?_, fun s t => ⟨rfl, rfl, rfl, rfl, fun row => execAll_singleton _ s⟩⟩
  have ⟨_, hN, _⟩ := hinv.parValid
  obtain ⟨t, hall, ht⟩ := execAll_expandRows (i := 0) (by omega) hinv.bankLength (by omega) hfin
  refine ⟨t, hall, ht.diag, ht.length, fun i _ => ⟨fun b0 b1 b2 a1 a2 hrow => ?_, fun hbad => ?_⟩⟩
  · have hi := ht.written i ⟨b0, b1, b2, a1, a2⟩ hrow
    rwa [Nat.zero_add] at hi
  · exact ht.others i fun r _ hr => hbad r hr

/-! ### Decimal operands -/

section
variable {w : Word}

/-- R8: a word's sign, exponent and fraction fields. -/
theorem word_toNat (w : Word) :
    w.toNat = (if w.getLsbD 31 then 2 ^ 31 else 0) + exponent w * 2 ^ 23 + fraction w := by
  have hw : w.toNat < 2 ^ 32 := w.isLt
  have hsign : w.getLsbD 31 = decide (w.toNat / 2 ^ 31 % 2 = 1) := Nat.testBit_eq_decide_div_mod_eq
  rw [hsign, exponent, fraction, BitVec.extractLsb'_toNat, BitVec.extractLsb'_toNat, Nat.shiftRight_eq_div_pow,
    Nat.shiftRight_zero]
  simp only [decide_eq_true_iff]
  split <;> omega

theorem fraction_lt (w : Word) : fraction w < 2 ^ 23 := (w.extractLsb' 0 23).isLt

theorem exponent_lt_of_finite (h : wordFinite w = true) : exponent w < 255 := by
  have hlt : exponent w < 2 ^ 8 := (w.extractLsb' 23 8).isLt
  have hne : exponent w ≠ 0xFF := of_decide_eq_true h
  omega

namespace Machine

/-- R93: the bits below the sign of the word nearest to `a ≥ 0`, the infinity where `a` is beyond the format. -/
def decimalBits (a : ℚ) : Nat :=
  if a = 0 then 0
  else min ((ulpExponent a + 149).toNat * 2 ^ 23 + roundHalfEven (a / 2 ^ ulpExponent a)) 0x7F800000

theorem wordOfRat_eq (q : ℚ) :
    wordOfRat q = BitVec.ofNat 32 (if q < 0 then decimalBits |q| + 2 ^ 31 else decimalBits |q|) := rfl

theorem roundHalfEven_natCast (n : Nat) : roundHalfEven n = n := by
  have hfloor : (n : ℚ).floor.toNat = n := by
    rw [← Int.cast_natCast, Rat.floor_intCast, Int.toNat_natCast]
  simp [roundHalfEven, hfloor]

/-- The last place of a number of the format is the place it is written in: its leading bit is bit 23, or the place is
the least there is. -/
theorem ulpExponent_of_format {n : Nat} {e : ℤ} (hpos : 0 < n) (hn : n < 2 ^ 24)
    (he : 2 ^ 23 ≤ n ∧ -149 ≤ e ∨ e = -149) : ulpExponent (n * 2 ^ e) = e := by
  have ha : (0 : ℚ) < n * 2 ^ e := by positivity
  have hupper : Int.log 2 ((n : ℚ) * 2 ^ e) < e + 24 := by
    rw [← Int.lt_zpow_iff_log_lt (by norm_num) ha]
    push_cast
    rw [zpow_add₀ (by norm_num), mul_comm]
    exact mul_lt_mul_of_pos_left (by exact_mod_cast hn) (by positivity)
  rw [ulpExponent]
  obtain ⟨hlead, he⟩ | rfl := he
  · have hlower : e + 23 ≤ Int.log 2 ((n : ℚ) * 2 ^ e) := by
      rw [← Int.zpow_le_iff_le_log (by norm_num) ha]
      push_cast
      rw [zpow_add₀ (by norm_num), mul_comm]
      exact mul_le_mul_of_nonneg_right (by exact_mod_cast hlead) (by positivity)
    omega
  · omega

theorem decimalBits_of_format {n : Nat} {e : ℤ} (hpos : 0 < n) (hn : n < 2 ^ 24)
    (he : 2 ^ 23 ≤ n ∧ -149 ≤ e ∨ e = -149) :
    decimalBits (n * 2 ^ e) = min ((e + 149).toNat * 2 ^ 23 + n) 0x7F800000 := by
  have h2 : (2 : ℚ) ^ e ≠ 0 := by positivity
  have ha : (n : ℚ) * 2 ^ e ≠ 0 := by positivity
  rw [decimalBits, if_neg ha, ulpExponent_of_format hpos hn he, mul_div_cancel_right₀ _ h2, roundHalfEven_natCast]

/-- R8: a finite word's magnitude is written in its own exponent and fraction. -/
theorem decimalBits_magnitude (h : wordFinite w = true) :
    decimalBits ((magnitude w : ℚ) / 2 ^ 150) = exponent w * 2 ^ 23 + fraction w := by
  have hf := fraction_lt w
  have hE := exponent_lt_of_finite h
  rw [magnitude]
  split
  next hzero =>
    obtain hf0 | hfpos := Nat.eq_zero_or_pos (fraction w)
    · simp [hzero, hf0, decimalBits]
    · have hsub : ((2 * fraction w : ℕ) : ℚ) / 2 ^ 150 = fraction w * 2 ^ (-149 : ℤ) := by
        push_cast
        norm_num
        ring
      rw [hsub, decimalBits_of_format hfpos (by omega) (.inr rfl), hzero]
      omega
  next hpos =>
    have hnormal : (((2 ^ 23 + fraction w) * 2 ^ exponent w : ℕ) : ℚ) / 2 ^ 150 =
        (2 ^ 23 + fraction w : ℕ) * 2 ^ ((exponent w : ℤ) - 150) := by
      rw [zpow_sub₀ (by norm_num), zpow_natCast]
      push_cast
      rw [mul_div_assoc]
      rfl
    rw [hnormal, decimalBits_of_format (by omega) (by omega) (.inl ⟨by omega, by omega⟩)]
    omega

end Machine

/-- R8: of the finite words only the two zeros denote 0. -/
theorem magnitude_eq_zero_iff (w : Word) : magnitude w = 0 ↔ exponent w = 0 ∧ fraction w = 0 := by
  rw [magnitude]
  split
  next h => simp [h]
  next h => simp [h]

end

/-- Settles O60: the bits of a finite word's magnitude are its exponent and fraction, and its sign is its number's. -/
theorem decimalOfAWordIsTheWord : Obligations.DecimalOfAWordIsTheWord := by
  intro w hfin hne
  have hbits := decimalBits_magnitude hfin
  have hw := word_toNat w
  have hnonneg : (0 : ℚ) ≤ (magnitude w : ℚ) / 2 ^ 150 := by positivity
  rw [wordOfRat_eq, val, if_pos hfin]
  cases hsign : w.getLsbD 31 with
  | false =>
    rw [hsign] at hw
    simp only [Bool.false_eq_true, if_false, Nat.zero_add] at hw ⊢
    rw [if_neg hnonneg.not_gt, abs_of_nonneg hnonneg, hbits, ← hw, BitVec.ofNat_toNat, BitVec.setWidth_eq]
  | true =>
    rw [hsign] at hw
    simp only [if_true] at hw ⊢
    have hmag : 0 < magnitude w := by
      refine Nat.pos_of_ne_zero fun hzero => hne ?_
      obtain ⟨hE, hf⟩ := (magnitude_eq_zero_iff w).1 hzero
      rw [hE, hf] at hw
      exact BitVec.eq_of_toNat_eq hw
    have hneg : -((magnitude w : ℚ) / 2 ^ 150) < 0 := by
      rw [neg_lt_zero]
      positivity
    rw [if_pos hneg, abs_neg, abs_of_nonneg hnonneg, hbits, Nat.add_comm, ← Nat.add_assoc, ← hw, BitVec.ofNat_toNat,
      BitVec.setWidth_eq]

end Sys2Proof
end
